-- ==== Sys2Proof/Word.lean ====
section
/-! DEFINITION. The byte of a station link and of a layout (R170, R186), and nothing else: every other quantity of
the spec is a number with a range, kept as `Nat` or `Int`. -/

namespace Sys2Proof

/-- One byte on a station link: 8 data bits (R170). -/
abbrev Byte := BitVec 8

end Sys2Proof
end

