-- ==== Sys2Proof/Config.lean ====
section
/-! DEFINITION. What the spec leaves open: free values. None has a body, so a claim holds whatever they are. -/

namespace Sys2Proof

/-- The bit depth taken when the computed value of R12 passes the 1,500,000 mm to which R12 bounds d. The spec gives no
result there. The argument is the model's counter of free values, so each use is a fresh value. It is used under
`min 1500000`, the limit R12 sets. DESIGN CHOICE, entry 13. -/
opaque Config.depthBeyond : Nat → Nat

/-- The tick count after 4,294,967,295 (R31 gives the range and no rule at its end), used modulo 2^32.
DESIGN CHOICE, entry 14. -/
opaque Config.tickBeyond : Nat → Nat

/-- The bytes sent for an unsigned number that does not fit the width R186 gives it, by width and number, used modulo
the width. DESIGN CHOICE, entry 15. -/
opaque Config.overWide : Nat → Nat → Nat

/-- The same for a signed number of 4 bytes (R186). DESIGN CHOICE, entry 15. -/
opaque Config.overWideSigned : Int → Nat

/-- What a flag byte of a request means when it is neither 0 nor 1 (no rule gives a flag such a value).
DESIGN CHOICE, entry 16. -/
opaque Config.otherFlag : Nat → Bool

end Sys2Proof
end

