-- ==== Sys2Proof/Syntax.lean ====
section
/-! DEFINITION. The commands: one constructor of `Instr` for each row of spec/opcode_table.json, in the table's order.
The rows give no operands: those here are read from each row's rule (entry 5). A request carries the link it came on and
its tag (R170), then its operands in the order its rule lists them (R186). -/

namespace Sys2Proof.Machine

/-- The four station links (R172). -/
inductive Link where
  | a | b | c | d
deriving DecidableEq, Repr

/-- The two mud pumps (R43). -/
inductive PumpId where
  | one | two
deriving DecidableEq, Repr

/-- The roles of R172, numbered in its order. A strap names one of the first four. -/
inductive Role where
  | driller | handler | mud | office | observer
deriving DecidableEq, Repr

/-- The two line speeds of R170. -/
inductive Speed where
  | baud57600 | baud230400
deriving DecidableEq, Repr

/-- The straps read at cold start: the role strap of each link (R172) and the speed strap (R170). -/
structure Straps where
  roleA : Role
  roleB : Role
  roleC : Role
  roleD : Role
  speed : Speed
deriving DecidableEq, Repr

/-- The store's areas, numbered as R188 numbers them (R140). -/
inductive AreaId where
  | settings | rods | strata | jobs
deriving DecidableEq, Repr

/-- What a write in progress leaves in its slot when power goes (R141, R158): a blank slot, a slot that is WRITTEN and
fails its check, or the record whole. The rules leave which of them it is to the moment, so it is an operand (entry 11). -/
inductive TornWrite where
  | blank | damaged | written
deriving DecidableEq, Repr

/-- A stored slot in which bits have gone wrong by the next cold start, with the number of wrong bits found there
(R140, R151, R154 speak of such slots and not of their cause: entry 12). -/
structure SlotDecay where
  area : AreaId
  index : Nat
  wrongBits : Nat
deriving DecidableEq, Repr

/-- The causes of a discarded frame (R171), numbered from 1 by R188. -/
inductive FrameCause where
  | length | timeout | check | overrun
deriving DecidableEq, Repr

/-- The tariff table (R125): six band lower bounds, 24 metre prices (band by band, SOFT, MEDIUM, HARD, UNKNOWN),
seven hourly rates in the order of R112, and the other prices. -/
structure Tariff where
  bounds : Vector Nat 6
  metre : Vector Nat 24
  hourly : Vector Nat 7
  mud : Nat
  lostVolume : Nat
  additive : Vector Nat 8
  lostRod : Vector Nat 4
  lostBha : Nat
  mobilisation : Nat
deriving DecidableEq, Repr

/-- The request kinds of R186, in the order of their numbers 1 to 63. -/
inductive Kind where
  | setRodClass | registerRod | layDownRod | restoreRod | retireRod | saveRods | setBha | setDepthLimits
  | setBlockHeight | declareString | declareParted | readStringStatus | readStringList | readRod | readRodTable | pick
  | stab | madeUp | abortAdd | breakOut | broken | racked | laidDown | acknowledgeFault | readConnectionStatus | setPump
  | setCirculationLimits | readCirculationStatus | setHoleSections | readLagGeometry | setSampleWindow | logSample
  | readCuttingsQueue | setIntervalStep | setLithologyTable | reportWaterStrike | addNote | readStrataStatus
  | readLithologyTable | readStrata | readStrataLatest | downtimeStart | downtimeEnd | mixReport | readJobMeters
  | setTariffs | statement | jobOpen | jobClose | readTariffs | saveSettings | readJob | readSettingsImage
  | readRodsImage | readStoreStatus | setLineFunction | driveGeneralOutput | readLineStatus | linkReset | linkStatus
  | clearLock | setNoticeMasks | clearNotices
deriving DecidableEq, Repr

end Sys2Proof.Machine

namespace Sys2Proof

open Machine

/-- The commands of the block. -/
inductive Instr where
  -- power, clocks and field events
  | coldStart (straps : Straps) (torn : TornWrite) (decay : List SlotDecay)
  | startupLoadComplete
  | timeBaseTick
  | pumpTimeout (pump : PumpId)
  | pinLevelChange (line : Fin 12) (high : Bool) (after : Nat)
  | inputFilterExpiry (line : Fin 12)
  | windowCompletion
  | dueDetection
  | windowExpiry
  -- link and store events
  | interByteTimeout (ln : Link)
  | frameDiscard (ln : Link) (cause : FrameCause)
  | unknownKind (ln : Link) (tag kind : Nat)
  | transmissionEnd (ln : Link)
  | eraseComplete (after : Nat)
  | writeComplete (verified : Bool) (after : Nat)
  -- chapter 1: rods and string
  | setRodClass (ln : Link) (tag cls : Nat) (defined : Bool) (thread cap torque : Nat)
  | registerRod (ln : Link) (tag rod cls len : Nat)
  | layDownRod (ln : Link) (tag rod : Nat)
  | restoreRod (ln : Link) (tag rod : Nat)
  | retireRod (ln : Link) (tag rod : Nat)
  | saveRods (ln : Link) (tag : Nat)
  | setBha (ln : Link) (tag len cap thread : Nat)
  | setDepthLimits (ln : Link) (tag cpm tol : Nat)
  | setBlockHeight (ln : Link) (tag height : Nat)
  | declareString (ln : Link) (tag len cap thread : Nat) (runs : List (Nat × Nat))
  | declareParted (ln : Link) (tag k : Nat)
  | readStringStatus (ln : Link) (tag : Nat)
  | readStringList (ln : Link) (tag pos : Nat)
  | readRod (ln : Link) (tag rod : Nat)
  | readRodTable (ln : Link) (tag start : Nat)
  -- chapter 2: connections
  | pick (ln : Link) (tag rod : Nat)
  | stab (ln : Link) (tag : Nat)
  | madeUp (ln : Link) (tag torque : Nat)
  | abortAdd (ln : Link) (tag : Nat)
  | breakOut (ln : Link) (tag : Nat)
  | broken (ln : Link) (tag : Nat)
  | racked (ln : Link) (tag : Nat)
  | laidDown (ln : Link) (tag : Nat)
  | acknowledgeFault (ln : Link) (tag resolution : Nat)
  | readConnectionStatus (ln : Link) (tag : Nat)
  -- chapter 3: circulation
  | setPump (ln : Link) (tag pump disp eff timeout : Nat)
  | setCirculationLimits (ln : Link) (tag gainT fullT totalT window pulse : Nat)
  | readCirculationStatus (ln : Link) (tag : Nat)
  -- chapters 4 and 5: lag and cuttings
  | setHoleSections (ln : Link) (tag : Nat) (sections : List (Nat × Nat)) (surface : Nat)
  | readLagGeometry (ln : Link) (tag : Nat)
  | setSampleWindow (ln : Link) (tag volume level : Nat)
  | logSample (ln : Link) (tag interval code : Nat) (colour : Option Nat) (notes : List Nat)
  | readCuttingsQueue (ln : Link) (tag pos : Nat)
  -- chapter 6: strata log
  | setIntervalStep (ln : Link) (tag step : Nat)
  | setLithologyTable (ln : Link) (tag : Nat) (entries : List (Nat × Nat))
  | reportWaterStrike (ln : Link) (tag depth : Nat)
  | addNote (ln : Link) (tag interval note : Nat)
  | readStrataStatus (ln : Link) (tag : Nat)
  | readLithologyTable (ln : Link) (tag : Nat)
  | readStrata (ln : Link) (tag index : Nat)
  | readStrataLatest (ln : Link) (tag job : Nat)
  -- chapter 7: activity and metering
  | downtimeStart (ln : Link) (tag kind : Nat)
  | downtimeEnd (ln : Link) (tag : Nat)
  | mixReport (ln : Link) (tag litres : Nat) (entries : List (Nat × Nat))
  | readJobMeters (ln : Link) (tag : Nat)
  -- chapter 8: tariffs, statements, jobs
  | setTariffs (ln : Link) (tag : Nat) (table : Tariff) (drillHold tripHold : Nat)
  | statement (ln : Link) (tag : Nat)
  | jobOpen (ln : Link) (tag job client start : Nat)
  | jobClose (ln : Link) (tag : Nat)
  | readTariffs (ln : Link) (tag : Nat)
  -- chapter 9: record store
  | saveSettings (ln : Link) (tag : Nat)
  | readJob (ln : Link) (tag index part : Nat)
  | readSettingsImage (ln : Link) (tag part : Nat)
  | readRodsImage (ln : Link) (tag start : Nat)
  | readStoreStatus (ln : Link) (tag : Nat)
  -- chapter 10: field lines
  | setLineFunction (ln : Link) (tag line function polarity filter : Nat)
  | driveGeneralOutput (ln : Link) (tag line level : Nat)
  | readLineStatus (ln : Link) (tag : Nat)
  -- chapter 11: links and notices
  | linkReset (ln : Link) (tag : Nat)
  | linkStatus (ln : Link) (tag : Nat)
  | clearLock (ln : Link) (tag : Nat)
  | setNoticeMasks (ln : Link) (tag : Nat) (conds : List Nat) (latchWhileMasked : Bool)
  | clearNotices (ln : Link) (tag : Nat) (conds : List Nat)
  -- the last two rows of the table
  | byteArrival (ln : Link) (byte : Byte) (after : Nat)
  | powerLoss (torn : TornWrite)
deriving DecidableEq, Repr

end Sys2Proof
end

