-- ==== Sys2Proof/Machine/State.lean ====
section
/-! DEFINITION. The state of the DR-612 as plain data: one structure for each functional block of 00_scope.md, the
nonvolatile areas of the record store, the queue of waiting commands, the outcomes of a step, and the state right after
a cold start. What the spec derives from other state (block height, string length, permit, raw values that follow a
unit's state, attention outputs) is not stored: Ops.lean and Flags.lean compute it. -/

namespace Sys2Proof.Machine

open Sys2Proof

/-! ### Outcomes -/

/-- Reasons for which the block would stop. Closed: the spec names no event that stops the part (its faults are states of
its units and its refusals are replies), so no meaning answers with one. -/
inductive Fault where
  /-- Raised by nothing: it stands here because the interface asks for a type of fault reasons. Safe. -/
  | stopped
deriving DecidableEq, Repr

/-- Reasons for refusing a command. -/
inductive Refusal where
  /-- A command without a meaning in this model; `exec` names its row. No arm answers it now. Safe. -/
  | notModelled (mnemonic : String)
deriving DecidableEq, Repr

/-! ### Field lines (chapter 10) -/

/-- The functions of a line, numbered in the order of R160. -/
inductive LineFn where
  | stroke1 | stroke2 | returnFlow | encoder | slips | pumpPermit | attentionA | attentionB | attentionC | attentionD
  | generalIn | generalOut
deriving DecidableEq, Repr

/-- Polarity of a line (R159). -/
inductive Polarity where
  | activeHigh | activeLow
deriving DecidableEq, Repr

/-- Level of an output line (R159). -/
inductive OutLevel where
  | asserted | deasserted
deriving DecidableEq, Repr

/-- The part of a line record that is in the live settings (R159, R160): `filter` in tenths of a millisecond, absent for an
output function. -/
structure LineCfg where
  fn : LineFn
  pol : Polarity
  filter : Option Nat
deriving DecidableEq, Repr

/-- A line record (R159). `pin` is the level the outside gives the pin; `filtered` is true for ACTIVE; the time for which the
level has been stable is the present time less `stableSince`. `general` is the level of GENERAL_OUT; other output
functions take their level from their owner (R166). -/
structure LineRec where
  cfg : LineCfg
  claimed : Bool
  pin : Bool
  filtered : Option Bool
  stableSince : Nat
  general : OutLevel
deriving DecidableEq, Repr

/-- The Field Line Unit (R159, R165). -/
structure FieldUnit where
  lines : Vector LineRec 12
  encRef : Option (Bool × Bool)
  encoderCount : Int
  illegalSteps : Nat
  lastStroke1 : Option Nat
  lastStroke2 : Option Nat
  ignored1 : Nat
  ignored2 : Nat
deriving DecidableEq, Repr

/-! ### The drill string (chapter 1) -/

/-- A defined rod class (R1). -/
structure RodClass where
  thread : Nat
  cap : Nat
  torque : Nat
deriving DecidableEq, Repr

/-- The states of a rod (R2). -/
inductive RodState where
  | rack | handling | string | laidDown | lost
deriving DecidableEq, Repr

/-- A rod table entry (R2). -/
structure Rod where
  id : Nat
  cls : Nat
  len : Nat
  runs : Nat
  state : RodState
deriving DecidableEq, Repr

/-- A present bottom-hole assembly (R7). -/
structure Bha where
  len : Nat
  cap : Nat
  thread : Nat
deriving DecidableEq, Repr

/-- The slips state (R11). -/
inductive Slips where
  | set | released
deriving DecidableEq, Repr

/-- Depth status (R14). -/
inductive DepthStatus where
  | reliable | faulted
deriving DecidableEq, Repr

/-- The String Table Unit (R1 to R17): `list` bottom to top, `d` bit depth, `hole` hole depth H. -/
structure StringUnit where
  classes : Vector (Option RodClass) 4
  rods : List Rod
  bha : Option Bha
  list : List Nat
  cpm : Nat
  tol : Nat
  offset : Int
  slips : Slips
  d : Nat
  hole : Nat
  depth : DepthStatus
deriving DecidableEq, Repr

/-! ### Connections (chapter 2) -/

/-- The states from which a fault is entered (R33, R34). -/
inductive Origin where
  | addPicked | addStabbed | breakRequested | breakOpen
deriving DecidableEq, Repr

/-- The cause of a connection fault, with the pump of PUMPED_ON_BREAK (R22). -/
inductive ConnCause where
  | slipsLost | pumpedOnBreak (p : PumpId)
deriving DecidableEq, Repr

/-- The fault record (R22): present exactly in FAULT, since it is part of that state. -/
structure FaultRec where
  cause : ConnCause
  origin : Origin
deriving DecidableEq, Repr

/-- The connection state (R22). -/
inductive ConnState where
  | free | addPicked | addStabbed | breakRequested | breakOpen | fault (r : FaultRec)
deriving DecidableEq, Repr

/-- The resolutions of Acknowledge Fault (R36). -/
inductive Resolution where
  | keep | ret | layDown | restore
deriving DecidableEq, Repr

/-- The kinds of a completion record (R31). -/
inductive CompletionKind where
  | madeUp | racked | laidDown | resolved
deriving DecidableEq, Repr

/-- The last completion record (R31). -/
structure Completion where
  kind : CompletionKind
  rod : Option Nat
  torque : Option Nat
  resolution : Option Resolution
  time : Nat
deriving DecidableEq, Repr

/-- The Connection Unit (R22). -/
structure ConnUnit where
  state : ConnState
  handling : Option Nat
  last : Option Completion
deriving DecidableEq, Repr

/-! ### Circulation (chapter 3) -/

/-- The circulation states, numbered in the order of R52. -/
inductive CircState where
  | idle | starting | circulating | partialLoss | totalLoss | gain
deriving DecidableEq, Repr

/-- Pump constants (R43); an unset displacement is absent. -/
structure PumpConst where
  disp : Option Nat
  eff : Nat
  timeout : Nat
deriving DecidableEq, Repr

/-- One pump (R43 to R47). -/
structure Pump where
  const : PumpConst
  strokes : Nat
  vol : Nat
  rem : Nat
  running : Bool
  countdown : Nat
deriving DecidableEq, Repr

/-- The five values of Set Circulation Limits (R51). -/
structure CircLimits where
  gainT : Nat
  fullT : Nat
  totalT : Nat
  window : Nat
  pulse : Nat
deriving DecidableEq, Repr

/-- Job-close figures (R58). -/
structure CloseFigures where
  strokes1 : Nat
  vol1 : Nat
  strokes2 : Nat
  vol2 : Nat
  returned : Nat
  lost : Nat
  gain : Nat
deriving DecidableEq, Repr

/-- The Circulation Unit (R43 to R58). `windowInForce` is the W of the latest completion check: a W set since then waits for
stage 5 of the next accepted stroke (R49). -/
structure CircUnit where
  p1 : Pump
  p2 : Pump
  limits : CircLimits
  windowInForce : Nat
  returned : Nat
  pw : Nat
  rw : Nat
  state : CircState
  lastCand : Option CircState
  lastFrac : Option Nat
  lift : Nat
  lost : Nat
  gain : Nat
  lossRaw : Bool
  gainRaw : Bool
  close : Option CloseFigures
deriving DecidableEq, Repr

/-! ### Strata records and the cuttings queue (chapters 4 to 6) -/

/-- Rock classes (R98). -/
inductive RockClass where
  | soft | medium | hard | unknown
deriving DecidableEq, Repr

/-- Sample statuses (R98). -/
inductive SampleStatus where
  | caught | missed | lostReturns | untracked | unsampledAtClose
deriving DecidableEq, Repr

/-- A strata record (R98). -/
structure StrataRec where
  job : Nat
  interval : Nat
  top : Nat
  bottom : Nat
  seconds : Nat
  rate : Option Nat
  worst : CircState
  strike : Option Nat
  lith : Option Nat
  colour : Option Nat
  rock : RockClass
  status : Option SampleStatus
  notes : List Nat
  closeTime : Nat
deriving DecidableEq, Repr

/-- Parcel statuses (R78). -/
inductive ParcelStatus where
  | inFlight | due | finalWaiting
deriving DecidableEq, Repr

/-- A parcel (R78); its interval number is that of its record. -/
structure Parcel where
  raw : Nat
  eff : Nat
  status : ParcelStatus
  windowEnd : Option Nat
  record : StrataRec
deriving DecidableEq, Repr

/-- A hole section (R61). -/
structure Section where
  bottom : Nat
  cap : Nat
deriving DecidableEq, Repr

/-- The last annulus record (R73). -/
structure AnnulusRec where
  interval : Nat
  d : Nat
  len : Nat
  rods : Nat
  segments : Nat
  volume : Nat
  clamped : Nat
  beyond : Option Nat
  lift : Nat
  surface : Nat
  raw : Nat
  eff : Nat
  raised : Bool
deriving DecidableEq, Repr

/-- The Lag Unit (R61 to R80). `rise` tells that a rise of the lift counter has been handed to the unit and not yet examined
to its end (R84). -/
structure LagUnit where
  sections : List Section
  surface : Nat
  lastAnnulus : Option AnnulusRec
  parcels : List Parcel
  sampleWindow : Nat
  nearLevel : Nat
  nearRaw : Bool
  rise : Bool
deriving DecidableEq, Repr

/-- The open interval (R95). -/
structure OpenInterval where
  number : Nat
  top : Nat
  bottom : Nat
  drilled : Nat
  seconds : Nat
  worst : CircState
  strike : Option Nat
  notes : List Nat
deriving DecidableEq, Repr

/-- A lithology table entry (R100): SOFT, MEDIUM or HARD. -/
structure LithEntry where
  code : Nat
  cls : RockClass
deriving DecidableEq, Repr

/-- The Strata Log Unit (R95, R100, R103, R91). -/
structure StrataUnit where
  step : Nat
  anchor : Option Nat
  openIv : Option OpenInterval
  closed : Nat
  lith : List LithEntry
  lastClass : Option RockClass
  overflow : List StrataRec
deriving DecidableEq, Repr

/-! ### Metering and jobs (chapters 7 and 8) -/

/-- The seven activities, in the order of the meters (R112). -/
inductive Activity where
  | drilling | tripping | circulating | lossControl | standby | downtimeRig | downtimeClient
deriving DecidableEq, Repr

/-- Kinds of downtime (R113). -/
inductive DownKind where
  | rig | client
deriving DecidableEq, Repr

/-- A downtime declaration (R113). -/
structure Downtime where
  kind : DownKind
  start : Nat
deriving DecidableEq, Repr

/-- The phases of the job record (R131, R136). -/
inductive Phase where
  | held | offered
deriving DecidableEq, Repr

/-- The job state (R131); the phase is present exactly while CLOSING. -/
inductive JobState where
  | noJob | opened | closing (p : Phase)
deriving DecidableEq, Repr

/-- The job identity (R131). -/
structure JobIdent where
  number : Nat
  client : Nat
  start : Nat
deriving DecidableEq, Repr

/-- One statement line (R127): its saturation mark is `sat`. -/
structure StmtLine where
  qty : Nat
  price : Nat
  amount : Nat
  sat : Bool
deriving DecidableEq, Repr

/-- A statement (R129, R130). -/
structure Statement where
  provisional : Bool
  ident : JobIdent
  clock : Nat
  hole : Nat
  pendingMm : Nat
  lines : List StmtLine
  total : Nat
  saturated : Bool
deriving DecidableEq, Repr

/-- A job record (R135). -/
structure JobRecord where
  ident : JobIdent
  hole : Nat
  clock : Nat
  meters : Vector Nat 7
  cells : Vector Nat 24
  bounds : Vector Nat 6
  mud : Nat
  sacks : Vector Nat 8
  lostVolume : Nat
  lostBha : Nat
  lostRods : Vector Nat 4
  figures : CloseFigures
  amounts : List (Nat × Bool)
  total : Nat
  saturated : Bool
  intervals : Nat
deriving DecidableEq, Repr

/-- The Job Meter Unit (R109 to R131). -/
structure JobUnit where
  state : JobState
  ident : Option JobIdent
  clock : Nat
  lastActivity : Option Activity
  downtime : Option Downtime
  meters : Vector Nat 7
  drillHold : Nat
  tripHold : Nat
  lastAdvance : Option Nat
  pendingMm : Nat
  cells : Vector Nat 24
  mud : Nat
  sacks : Vector Nat 8
  lostBha : Nat
  lostRods : Vector Nat 4
  tariff : Tariff
  finalStmt : Option Statement
  record : Option JobRecord
deriving DecidableEq, Repr

/-! ### The record store (chapter 9) -/

/-- The live settings as one image (R143), in the order of its nine groups. -/
structure Settings where
  classes : Vector (Option RodClass) 4
  cpm : Nat
  tol : Nat
  pump1 : PumpConst
  pump2 : PumpConst
  limits : CircLimits
  sections : List Section
  surface : Nat
  sampleWindow : Nat
  nearLevel : Nat
  step : Nat
  lith : List LithEntry
  tariff : Tariff
  drillHold : Nat
  tripHold : Nat
  lines : Vector LineCfg 12
deriving DecidableEq, Repr

/-- The mark of a saved rod (R6). -/
inductive RodMark where
  | laidDown | lost
deriving DecidableEq, Repr

/-- One item of a RODS image (R6). -/
structure RodItem where
  id : Nat
  cls : Nat
  len : Nat
  runs : Nat
  mark : Option RodMark
deriving DecidableEq, Repr

/-- A slot that is not BLANK (R140): WRITTEN with its content and the number of its bits now wrong, or VOID. -/
inductive Slot (α : Type) where
  | written (content : α) (wrongBits : Nat)
  | void
deriving DecidableEq, Repr

/-- An image area: one block of two slots, absent when BLANK (R140). -/
structure ImageArea (α : Type) where
  slot0 : Option (Slot α)
  slot1 : Option (Slot α)
deriving DecidableEq, Repr

/-- A ring area of `blocks` blocks of `per` slots (R140): the slots that are not BLANK, by rising index, and the block
sequence numbers. -/
structure Ring (blocks per : Nat) (α : Type) where
  slots : List (Nat × Slot α)
  seqs : Vector (Option Nat) blocks
deriving DecidableEq, Repr

/-- The nonvolatile areas (R140). -/
structure Areas where
  settings : ImageArea Settings
  rods : ImageArea (List RodItem)
  strata : Ring 32 256 StrataRec
  jobs : Ring 4 16 JobRecord
deriving DecidableEq, Repr

/-- The content of a commit queue entry, by its kind (R142). -/
inductive EntryBody where
  | strata (r : StrataRec)
  | job (r : JobRecord)
  | settings (img : Settings)
  | rods (items : List RodItem)
deriving DecidableEq, Repr

/-- A commit queue entry (R142). -/
structure Entry where
  body : EntryBody
  failures : Nat
deriving DecidableEq, Repr

/-- An erase in progress (R145, R150): `run` is the erasing time kept at the last suspension and `since` the moment the
erase last began or resumed, in tenths of a millisecond. -/
structure Erase where
  area : AreaId
  block : Nat
  run : Nat
  since : Nat
  suspensions : Nat
deriving DecidableEq, Repr

/-- The store controller (R144). The head of the queue is the taken entry exactly in the middle three states. -/
inductive Ctl where
  | ready | erasing (e : Erase) | suspended (e : Erase) | writing | failed
deriving DecidableEq, Repr

/-- The five store reads (R149, R152). -/
inductive ReadReq where
  | strata (index : Nat)
  | latest (job : Nat)
  | job (index part : Nat)
  | settings (part : Nat)
  | rods (start : Nat)
deriving DecidableEq, Repr

/-- A pending read (R149). -/
structure PendingRead where
  ln : Link
  tag : Nat
  req : ReadReq
deriving DecidableEq, Repr

/-- Load results (R154). -/
inductive LoadResult where
  | none | clean | corrected | failedCheck
deriving DecidableEq, Repr

/-- The configuration marks (R155). -/
structure Marks where
  pump1 : Bool
  rodClass : Bool
  sections : Bool
  tariffs : Bool
deriving DecidableEq, Repr

/-- The Record Store (R140 to R158). -/
structure Store where
  areas : Areas
  strataPos : Nat
  jobsPos : Nat
  queue : List Entry
  ctl : Ctl
  readList : List PendingRead
  protect : Option Nat
  voidCount : Nat
  marks : Marks
  unconfigured : Bool
  loadSettings : LoadResult
  loadRods : LoadResult
deriving DecidableEq, Repr

/-! ### Links and notices (chapter 11) -/

/-- The 23 conditions, numbered from 1 in the order of the two tables of R178 (R186). -/
inductive Cond where
  | pumpsRunning | circLoss | circGain | slipsSet | depthFault | connectionFault | pumpPermit | storeFailed
  | unconfigured | queueNearFull
  | intervalClosed | sampleDue | sampleMissed | stratumChange | waterStrike | depthJump | geometryClamp
  | parcelUntracked | storeCorrected | commitDropped | pumpInterlock | frameError | noticeOverflow
deriving DecidableEq, Repr

/-- The content of a firing (R178, R188). -/
inductive Content where
  | raw (b : Bool)
  | interval (n : Nat)
  | depth (mm : Nat)
  | jump (mm : Int)
  | slot (area : AreaId) (index : Nat)
  | droppedInterval (n : Nat)
  | droppedJob (n : Nat)
  | pump (p : PumpId)
  | cause (c : FrameCause)
  | lostFrame (c : Cond)
deriving DecidableEq, Repr

/-- A set latch (R179): the content and the job seconds of the firing that set it. -/
structure Latch where
  content : Content
  seconds : Nat
deriving DecidableEq, Repr

/-- A notice frame (R179). -/
structure Notice where
  cond : Cond
  content : Content
  seconds : Nat
deriving DecidableEq, Repr

/-- The reply statuses, numbered from 0 in the order of R187's table. -/
inductive Status where
  | ok | clamped | unknownKind | badLength | badValue | roleViolation | locked | linkBusy | busy | noJob | jobOpen
  | closing | unconfigured | slipsOut | pumpsOn | notInRack | notFound | duplicate | tableFull | threadMismatch
  | stringFull | noBha | stringNotEmpty | torqueLow | wrongState | depthUnreliable | notDue | tooLate | belowBit
  | queueFull | storeFailed | erased | damaged
deriving DecidableEq, Repr

/-- A reply that has been made (R174): the kind and tag it carries, its status, and for each of its frames the body
bytes that follow the status (one frame, but three for a Statement, R189). -/
structure Reply where
  kind : Nat
  tag : Nat
  status : Status
  parts : List (List Byte)
deriving DecidableEq, Repr

/-- The frame a transmitter is sending (R175): frame number `part` of a reply, or a notice. -/
inductive Sending where
  | reply (r : Reply) (part : Nat)
  | notice (n : Notice)
deriving DecidableEq, Repr

/-- The receiver of a link (R170): in a frame it holds the bytes after the start byte and the time of the last byte. -/
inductive Receiver where
  | hunting
  | inFrame (bytes : List Byte) (last : Nat)
deriving DecidableEq, Repr

/-- Link states (R173). -/
inductive LinkState where
  | active | locked
deriving DecidableEq, Repr

/-- One link (R172 to R180, R185). A mask is true when the condition is masked. -/
structure LinkRec where
  strapped : Role
  effective : Role
  rx : Receiver
  state : LinkState
  violation : Option Kind
  replies : List Reply
  sending : Option Sending
  notices : List Notice
  latches : Vector (Option Latch) 23
  masks : Vector Bool 23
  latchWhileMasked : Bool
  owed : Bool
  frameErrors : Nat
  lost : Nat
deriving DecidableEq, Repr

/-- The Link Interface Unit. -/
structure LinkUnit where
  speed : Speed
  a : LinkRec
  b : LinkRec
  c : LinkRec
  d : LinkRec
deriving DecidableEq, Repr

/-- Power at the part (POWER_LOSS, COLD_START). -/
inductive Power where
  | off | on
deriving DecidableEq, Repr

/-! ### The state -/

/-- The whole machine. `pending` (the queue of commands), `free` (the count of free values used) and `power` are the
model's own fields; `now` is the part's millisecond timing in tenths; `tick` its count of one-second ticks (R31). -/
structure State where
  pending : List Instr
  power : Power
  loaded : Bool
  now : Nat
  free : Nat
  tick : Nat
  flu : FieldUnit
  str : StringUnit
  cxu : ConnUnit
  ccu : CircUnit
  lgu : LagUnit
  slu : StrataUnit
  jmu : JobUnit
  rst : Store
  liu : LinkUnit
deriving DecidableEq, Repr

/-! ### Reset -/

/-- The default tariff table (R125). -/
def Tariff.dflt : Tariff :=
  { bounds := #v[0, 50000, 100000, 200000, 400000, 800000]
    metre := Vector.replicate 24 0
    hourly := Vector.replicate 7 0
    mud := 0, lostVolume := 0
    additive := Vector.replicate 8 0
    lostRod := Vector.replicate 4 0
    lostBha := 0, mobilisation := 0 }

/-- The default pump constants (R43). -/
def PumpConst.dflt : PumpConst := { disp := none, eff := 1000, timeout := 6 }

/-- The default circulation limits (R51). -/
def CircLimits.dflt : CircLimits := { gainT := 1100, fullT := 900, totalT := 100, window := 200000, pulse := 500 }

/-- The default line assignment (R169), all ACTIVE_HIGH. -/
def LineCfg.dflt : Vector LineCfg 12 :=
  #v[⟨.stroke1, .activeHigh, some 20⟩, ⟨.generalIn, .activeHigh, some 100⟩, ⟨.stroke2, .activeHigh, some 20⟩,
     ⟨.returnFlow, .activeHigh, some 10⟩, ⟨.encoder, .activeHigh, some 5⟩, ⟨.encoder, .activeHigh, some 5⟩,
     ⟨.slips, .activeHigh, some 500⟩, ⟨.pumpPermit, .activeHigh, none⟩, ⟨.attentionA, .activeHigh, none⟩,
     ⟨.attentionB, .activeHigh, none⟩, ⟨.attentionC, .activeHigh, none⟩, ⟨.attentionD, .activeHigh, none⟩]

/-- The settings of a part whose SETTINGS image fails its check (R9, R21, R43, R51, R61, R63, R79, R96, R100, R111, R125,
R169). -/
def Settings.dflt : Settings :=
  { classes := Vector.replicate 4 none
    cpm := 4000, tol := 500
    pump1 := PumpConst.dflt, pump2 := PumpConst.dflt
    limits := CircLimits.dflt
    sections := [⟨1500000, 20000⟩], surface := 0
    sampleWindow := 150000, nearLevel := 28
    step := 1000
    lith := []
    tariff := Tariff.dflt, drillHold := 120, tripHold := 300
    lines := LineCfg.dflt }

/-- A line after cold start: settling from time 0 (R162, R169), with its pin low (entry 2). -/
def LineRec.cold (cfg : LineCfg) (claimed : Bool) : LineRec :=
  { cfg, claimed, pin := false, filtered := none, stableSince := 0, general := .deasserted }

/-- A pump after cold start (R59). -/
def Pump.cold (c : PumpConst) : Pump :=
  { const := c, strokes := 0, vol := 0, rem := 0, running := false, countdown := 0 }

/-- A link after cold start (R185), its transmitter idle: DEDUCED, entry 54. -/
def LinkRec.cold (strapped effective : Role) : LinkRec :=
  { strapped, effective, rx := .hunting, state := .active, violation := none, replies := [], sending := none
    notices := [], latches := Vector.replicate 23 none, masks := Vector.replicate 23 true
    latchWhileMasked := false, owed := false, frameErrors := 0, lost := 0 }

/-- A store in which nothing has been written (entry 1). -/
def Areas.blank : Areas :=
  { settings := ⟨none, none⟩, rods := ⟨none, none⟩
    strata := ⟨[], Vector.replicate 32 none⟩, jobs := ⟨[], Vector.replicate 4 none⟩ }

/-- The machine right after a cold start (R21, R59, R75, R94, R108, R124, R138, R154, R158, R169, R185) with a blank store,
links A to D strapped DRILLER, HANDLER, MUD and OFFICE, 57,600 bit/s, and every pin low (entries 1 and 2). -/
def State.reset : State :=
  { pending := []
    power := .on
    loaded := false
    now := 0
    free := 0
    tick := 0
    flu :=
      { lines :=
          #v[LineRec.cold LineCfg.dflt[0] false, LineRec.cold LineCfg.dflt[1] false, LineRec.cold LineCfg.dflt[2] false,
             LineRec.cold LineCfg.dflt[3] false, LineRec.cold LineCfg.dflt[4] false, LineRec.cold LineCfg.dflt[5] true,
             LineRec.cold LineCfg.dflt[6] false, LineRec.cold LineCfg.dflt[7] false, LineRec.cold LineCfg.dflt[8] false,
             LineRec.cold LineCfg.dflt[9] false, LineRec.cold LineCfg.dflt[10] false, LineRec.cold LineCfg.dflt[11] false]
        encRef := none, encoderCount := 0, illegalSteps := 0
        lastStroke1 := none, lastStroke2 := none, ignored1 := 0, ignored2 := 0 }
    str :=
      { classes := Vector.replicate 4 none, rods := [], bha := none, list := [], cpm := 4000, tol := 500, offset := 0
        slips := .released, d := 0, hole := 0, depth := .reliable }
    cxu := { state := .free, handling := none, last := none }
    ccu :=
      { p1 := Pump.cold PumpConst.dflt, p2 := Pump.cold PumpConst.dflt, limits := CircLimits.dflt
        windowInForce := CircLimits.dflt.window, returned := 0, pw := 0, rw := 0, state := .idle, lastCand := none, lastFrac := none, lift := 0
        lost := 0, gain := 0, lossRaw := false, gainRaw := false, close := none }
    lgu :=
      { sections := [⟨1500000, 20000⟩], surface := 0, lastAnnulus := none, parcels := []
        sampleWindow := 150000, nearLevel := 28, nearRaw := false, rise := false }
    slu :=
      { step := 1000, anchor := none, openIv := none, closed := 0, lith := [], lastClass := none, overflow := [] }
    jmu :=
      { state := .noJob, ident := none, clock := 0, lastActivity := none, downtime := none
        meters := Vector.replicate 7 0, drillHold := 120, tripHold := 300, lastAdvance := none, pendingMm := 0
        cells := Vector.replicate 24 0, mud := 0, sacks := Vector.replicate 8 0, lostBha := 0
        lostRods := Vector.replicate 4 0, tariff := Tariff.dflt, finalStmt := none, record := none }
    rst :=
      { areas := Areas.blank, strataPos := 0, jobsPos := 0, queue := [], ctl := .ready, readList := []
        protect := none, voidCount := 0, marks := ⟨false, false, false, false⟩, unconfigured := true
        loadSettings := .none, loadRods := .none }
    liu :=
      { speed := .baud57600
        a := LinkRec.cold .driller .driller, b := LinkRec.cold .handler .handler
        c := LinkRec.cold .mud .mud, d := LinkRec.cold .office .office } }

end Sys2Proof.Machine
end

