-- ==== Sys2Proof/Machine/Ops.lean ====
section
/-! DEFINITION. The named operations every unit shares: ranges and held counters, sorted lists, access to links, pumps and
lines, the rod table, and the values the String Table Unit derives (R8, R10, R12). -/

namespace Sys2Proof.Machine

open Sys2Proof

/-! ### Numbers -/

/-- A value outside its range is brought to the nearer end (00_scope.md, Settings). -/
def bringIn (lo hi v : Nat) : Nat := min hi (max lo v)

/-- Is the value in its range? -/
def inRange (lo hi v : Nat) : Bool := lo ≤ v && v ≤ hi

/-- A sum held at the maximum once it gets there. -/
def heldSum (top v inc : Nat) : Nat := min top (v + inc)

/-- The maximum of the 40-bit volume accumulators (00_scope.md, Volume; R46). -/
def maxVolume : Nat := 1099511627775

/-- The maximum of the 32-bit counters and amounts. -/
def max32 : Nat := 4294967295

/-- The maximum of the 16-bit counters. -/
def max16 : Nat := 65535

/-- The deepest depth (00_scope.md, Length). -/
def maxDepth : Nat := 1500000

/-- Put one item into a list kept in rising order of `key`, in place of an item with the same key. -/
def insertRising {α : Type} (key : α → Nat) (x : α) : List α → List α
  | [] => [x]
  | y :: ys =>
    if key x < key y then x :: y :: ys
    else if key x = key y then x :: ys
    else y :: insertRising key x ys

/-- Has the list an item twice? -/
def hasTwice : List Nat → Bool
  | [] => false
  | x :: xs => xs.contains x || hasTwice xs

/-- Does each number exceed the one before it? -/
def strictlyRising : List Nat → Bool
  | x :: y :: r => x < y && strictlyRising (y :: r)
  | _ => true

/-- Adjust entry `i` of a table, if there is one. -/
def bump {n : Nat} (v : Vector Nat n) (i : Nat) (f : Nat → Nat) : Vector Nat n :=
  if h : i < n then v.set i (f v[i]) else v

/-! ### Time -/

/-- Let `dt` tenths of a millisecond pass. -/
def State.passTime (s : State) (dt : Nat) : State := { s with now := s.now + dt }

/-- Bring the millisecond timing to the moment `t`, unless it is already past it. -/
def State.timeTo (s : State) (t : Nat) : State := { s with now := max s.now t }

/-! ### Links -/

/-- The record of one link. -/
def LinkUnit.get (u : LinkUnit) : Link → LinkRec
  | .a => u.a
  | .b => u.b
  | .c => u.c
  | .d => u.d

/-- Replace the record of one link. -/
def LinkUnit.put (u : LinkUnit) (ln : Link) (l : LinkRec) : LinkUnit :=
  match ln with
  | .a => { u with a := l }
  | .b => { u with b := l }
  | .c => { u with c := l }
  | .d => { u with d := l }

/-- The record of a link in the state. -/
def State.link (s : State) (ln : Link) : LinkRec := s.liu.get ln

/-- Adjust the record of a link. -/
def State.modLink (s : State) (ln : Link) (f : LinkRec → LinkRec) : State :=
  { s with liu := s.liu.put ln (f (s.liu.get ln)) }

/-- Adjust the records of all four links. -/
def State.modLinks (s : State) (f : LinkRec → LinkRec) : State :=
  { s with liu := { s.liu with a := f s.liu.a, b := f s.liu.b, c := f s.liu.c, d := f s.liu.d } }

/-! ### Units -/

/-- Adjust the Field Line Unit. -/
def State.modFlu (s : State) (f : FieldUnit → FieldUnit) : State := { s with flu := f s.flu }

/-- Adjust the String Table Unit. -/
def State.modStr (s : State) (f : StringUnit → StringUnit) : State := { s with str := f s.str }

/-- Adjust the Connection Unit. -/
def State.modCxu (s : State) (f : ConnUnit → ConnUnit) : State := { s with cxu := f s.cxu }

/-- Adjust the Circulation Unit. -/
def State.modCcu (s : State) (f : CircUnit → CircUnit) : State := { s with ccu := f s.ccu }

/-- Adjust the Lag Unit. -/
def State.modLgu (s : State) (f : LagUnit → LagUnit) : State := { s with lgu := f s.lgu }

/-- Adjust the Strata Log Unit. -/
def State.modSlu (s : State) (f : StrataUnit → StrataUnit) : State := { s with slu := f s.slu }

/-- Adjust the Job Meter Unit. -/
def State.modJmu (s : State) (f : JobUnit → JobUnit) : State := { s with jmu := f s.jmu }

/-- Adjust the Record Store. -/
def State.modRst (s : State) (f : Store → Store) : State := { s with rst := f s.rst }

/-- One pump. -/
def CircUnit.pump (u : CircUnit) : PumpId → Pump
  | .one => u.p1
  | .two => u.p2

/-- Replace one pump. -/
def CircUnit.putPump (u : CircUnit) (p : PumpId) (x : Pump) : CircUnit :=
  match p with
  | .one => { u with p1 := x }
  | .two => { u with p2 := x }

/-- The number of a pump (R43). -/
def PumpId.number : PumpId → Nat
  | .one => 1
  | .two => 2

/-- One line record. -/
def FieldUnit.line (u : FieldUnit) (i : Fin 12) : LineRec := u.lines[i]

/-- Replace one line record. -/
def FieldUnit.putLine (u : FieldUnit) (i : Fin 12) (r : LineRec) : FieldUnit := { u with lines := u.lines.set i r }

/-! ### The rod table (R2) -/

/-- The entry with this id. -/
def findRod (rods : List Rod) (id : Nat) : Option Rod := rods.find? (fun r => r.id == id)

/-- Adjust the entry with this id. -/
def modRod (rods : List Rod) (id : Nat) (f : Rod → Rod) : List Rod := rods.map (fun r => if r.id = id then f r else r)

/-- Move a rod to another state. -/
def setRodState (rods : List Rod) (id : Nat) (st : RodState) : List Rod :=
  modRod rods id (fun r => { r with state := st })

/-- The number of rods in a state. -/
def countRods (rods : List Rod) (st : RodState) : Nat := (rods.filter (fun r => r.state == st)).length

/-- The entry of class number 1 to 4; absent when undefined (R1). -/
def classEntry (classes : Vector (Option RodClass) 4) (cls : Nat) : Option RodClass :=
  if cls = 0 then none else (classes[cls - 1]?).join

/-- The thread of a rod: that of its class, none when the class is undefined (R1). -/
def rodThread (u : StringUnit) (id : Nat) : Option Nat :=
  ((findRod u.rods id).bind (fun r => classEntry u.classes r.cls)).map (·.thread)

/-- The measured length of a rod. -/
def rodLen (u : StringUnit) (id : Nat) : Nat := ((findRod u.rods id).map (·.len)).getD 0

/-! ### Values the String Table Unit derives -/

/-- String length L (R8). -/
def StringUnit.length (u : StringUnit) : Nat :=
  ((u.bha.map (·.len)).getD 0) + (u.list.map (rodLen u)).sum

/-- Top thread (R8). -/
def StringUnit.topThread (u : StringUnit) : Option Nat :=
  match u.list.getLast? with
  | some id => rodThread u id
  | none => u.bha.map (·.thread)

/-- The encoder term: count × 1,000 divided by counts per metre, rounded toward minus infinity (R10). -/
def encoderTerm (count : Int) (cpm : Nat) : Int := (count * 1000).fdiv cpm

/-- Unclamped block height u (R10). -/
def State.heightU (s : State) : Int := encoderTerm s.flu.encoderCount s.str.cpm + s.str.offset

/-- Block height h (R10). -/
def State.height (s : State) : Nat := min 30000 s.heightU.toNat

/-- The computed value of R12: L − h, or 0 when h exceeds L. -/
def State.computed (s : State) : Nat := s.str.length - s.height

/-- The computed value as R12 lets d take it: with the BHA absent, no deeper than H. -/
def State.limited (s : State) : Nat :=
  match s.str.bha with
  | some _ => s.computed
  | none => min s.computed s.str.hole

/-- Is d frozen? (R11, R12, R14; entry 23.) -/
def StringUnit.frozen (u : StringUnit) : Bool := u.slips == .set || u.depth == .faulted

end Sys2Proof.Machine
end

