-- ==== Sys2Proof/Machine/Operands.lean ====
section
/-! DEFINITION. Codes and the names they stand for: enumerations are numbered from 0 in the order in which the rule that
owns them first lists them, conditions from 1 (R186), and statuses as R187's table has them. -/

namespace Sys2Proof.Machine

open Sys2Proof

/-! ### Requests and roles -/

/-- Every request kind, in the order of its number (R186). -/
def Kind.all : List Kind :=
  [.setRodClass, .registerRod, .layDownRod, .restoreRod, .retireRod, .saveRods, .setBha, .setDepthLimits,
   .setBlockHeight, .declareString, .declareParted, .readStringStatus, .readStringList, .readRod, .readRodTable, .pick,
   .stab, .madeUp, .abortAdd, .breakOut, .broken, .racked, .laidDown, .acknowledgeFault, .readConnectionStatus, .setPump,
   .setCirculationLimits, .readCirculationStatus, .setHoleSections, .readLagGeometry, .setSampleWindow, .logSample,
   .readCuttingsQueue, .setIntervalStep, .setLithologyTable, .reportWaterStrike, .addNote, .readStrataStatus,
   .readLithologyTable, .readStrata, .readStrataLatest, .downtimeStart, .downtimeEnd, .mixReport, .readJobMeters,
   .setTariffs, .statement, .jobOpen, .jobClose, .readTariffs, .saveSettings, .readJob, .readSettingsImage,
   .readRodsImage, .readStoreStatus, .setLineFunction, .driveGeneralOutput, .readLineStatus, .linkReset, .linkStatus,
   .clearLock, .setNoticeMasks, .clearNotices]

/-- The kind value of a request, 1 to 63 (R186). -/
def Kind.number (k : Kind) : Nat := Kind.all.idxOf k + 1

/-- The request a kind byte names, if it names one (R186). -/
def Kind.ofNumber (n : Nat) : Option Kind := if n = 0 then none else Kind.all[n - 1]?

/-- The requests every role may make (R172, first row). -/
def Kind.openToAll : Kind → Bool
  | .readStringStatus | .readStringList | .readRod | .readRodTable | .readConnectionStatus | .readCirculationStatus
  | .readLagGeometry | .readCuttingsQueue | .readStrataStatus | .readLithologyTable | .readStrata | .readStrataLatest
  | .readJobMeters | .readTariffs | .readJob | .readSettingsImage | .readRodsImage | .readStoreStatus | .readLineStatus
  | .setNoticeMasks | .clearNotices | .clearLock | .linkReset | .linkStatus => true
  | _ => false

/-- May the role make the request? (R172.) -/
def permits (r : Role) (k : Kind) : Bool :=
  k.openToAll ||
  match r with
  | .driller =>
    match k with
    | .abortAdd | .setBha | .declareString | .declareParted | .acknowledgeFault | .setBlockHeight | .setDepthLimits
    | .setHoleSections | .setSampleWindow | .setLithologyTable | .setIntervalStep | .logSample | .reportWaterStrike
    | .addNote | .downtimeStart | .downtimeEnd | .driveGeneralOutput => true
    | _ => false
  | .handler =>
    match k with
    | .registerRod | .layDownRod | .restoreRod | .retireRod | .setRodClass | .saveRods | .pick | .stab | .madeUp
    | .breakOut | .broken | .racked | .laidDown | .abortAdd => true
    | _ => false
  | .mud =>
    match k with
    | .setPump | .setCirculationLimits | .mixReport => true
    | _ => false
  | .office =>
    match k with
    | .saveRods | .setTariffs | .setLineFunction | .jobOpen | .jobClose | .statement | .saveSettings
    | .driveGeneralOutput => true
    | _ => false
  | .observer => false

/-! ### Codes sent and received -/

/-- The reply statuses in the order of their codes (R187). -/
def Status.all : List Status :=
  [.ok, .clamped, .unknownKind, .badLength, .badValue, .roleViolation, .locked, .linkBusy, .busy, .noJob, .jobOpen,
   .closing, .unconfigured, .slipsOut, .pumpsOn, .notInRack, .notFound, .duplicate, .tableFull, .threadMismatch,
   .stringFull, .noBha, .stringNotEmpty, .torqueLow, .wrongState, .depthUnreliable, .notDue, .tooLate, .belowBit,
   .queueFull, .storeFailed, .erased, .damaged]

/-- The status code (R187). -/
def Status.code (st : Status) : Nat := Status.all.idxOf st

/-- The conditions in the order of R178's tables. -/
def Cond.all : List Cond :=
  [.pumpsRunning, .circLoss, .circGain, .slipsSet, .depthFault, .connectionFault, .pumpPermit, .storeFailed,
   .unconfigured, .queueNearFull, .intervalClosed, .sampleDue, .sampleMissed, .stratumChange, .waterStrike, .depthJump,
   .geometryClamp, .parcelUntracked, .storeCorrected, .commitDropped, .pumpInterlock, .frameError, .noticeOverflow]

/-- The place of a condition in a link's tables of latches and masks. -/
def Cond.idx : Cond → Fin 23
  | .pumpsRunning => 0 | .circLoss => 1 | .circGain => 2 | .slipsSet => 3 | .depthFault => 4 | .connectionFault => 5
  | .pumpPermit => 6 | .storeFailed => 7 | .unconfigured => 8 | .queueNearFull => 9 | .intervalClosed => 10
  | .sampleDue => 11 | .sampleMissed => 12 | .stratumChange => 13 | .waterStrike => 14 | .depthJump => 15
  | .geometryClamp => 16 | .parcelUntracked => 17 | .storeCorrected => 18 | .commitDropped => 19 | .pumpInterlock => 20
  | .frameError => 21 | .noticeOverflow => 22

/-- The number of a condition, 1 to 23 (R186). -/
def Cond.number (c : Cond) : Nat := c.idx.val + 1

/-- The condition a number names; 0 names none (R186). -/
def Cond.ofNumber (n : Nat) : Option Cond := if n = 0 then none else Cond.all[n - 1]?

/-- The functions of a line in the order of R160. -/
def LineFn.all : List LineFn :=
  [.stroke1, .stroke2, .returnFlow, .encoder, .slips, .pumpPermit, .attentionA, .attentionB, .attentionC, .attentionD,
   .generalIn, .generalOut]

/-- The code of a line function (R160, R186). -/
def LineFn.code (f : LineFn) : Nat := LineFn.all.idxOf f

/-- The line function a code names. -/
def LineFn.ofCode (n : Nat) : Option LineFn := LineFn.all[n]?

/-- The code of a polarity (R159). -/
def Polarity.code : Polarity → Nat
  | .activeHigh => 0
  | .activeLow => 1

/-- The polarity a code names. -/
def Polarity.ofCode : Nat → Option Polarity
  | 0 => some .activeHigh
  | 1 => some .activeLow
  | _ => none

/-- The code of an output level (R159). -/
def OutLevel.code : OutLevel → Nat
  | .asserted => 0
  | .deasserted => 1

/-- The output level a code names. -/
def OutLevel.ofCode : Nat → Option OutLevel
  | 0 => some .asserted
  | 1 => some .deasserted
  | _ => none

/-- The resolution a code names (R36). -/
def Resolution.ofCode : Nat → Option Resolution
  | 0 => some .keep
  | 1 => some .ret
  | 2 => some .layDown
  | 3 => some .restore
  | _ => none

/-- The code of a resolution (R36). -/
def Resolution.code : Resolution → Nat
  | .keep => 0
  | .ret => 1
  | .layDown => 2
  | .restore => 3

/-- The downtime kind a code names (R113). -/
def DownKind.ofCode : Nat → Option DownKind
  | 0 => some .rig
  | 1 => some .client
  | _ => none

/-- The code of a downtime kind (R113). -/
def DownKind.code : DownKind → Nat
  | .rig => 0
  | .client => 1

/-- The rock class a code names in a lithology table: SOFT, MEDIUM or HARD (R100). -/
def RockClass.ofTableCode : Nat → Option RockClass
  | 0 => some .soft
  | 1 => some .medium
  | 2 => some .hard
  | _ => none

/-- The code of a rock class (R186). -/
def RockClass.code : RockClass → Nat
  | .soft => 0
  | .medium => 1
  | .hard => 2
  | .unknown => 3

/-- The code of a circulation state (R52, R186). -/
def CircState.code : CircState → Nat
  | .idle => 0
  | .starting => 1
  | .circulating => 2
  | .partialLoss => 3
  | .totalLoss => 4
  | .gain => 5

/-- The rank of a circulation state, from least to worst (R99). -/
def CircState.rank : CircState → Nat
  | .idle => 0
  | .starting => 1
  | .circulating => 2
  | .gain => 3
  | .partialLoss => 4
  | .totalLoss => 5

/-- The code of a sample status (R98, R186). -/
def SampleStatus.code : SampleStatus → Nat
  | .caught => 0
  | .missed => 1
  | .lostReturns => 2
  | .untracked => 3
  | .unsampledAtClose => 4

/-- The code of a parcel status (R190). -/
def ParcelStatus.code : ParcelStatus → Nat
  | .inFlight => 0
  | .due => 1
  | .finalWaiting => 2

/-- The code of a rod state (R2). -/
def RodState.code : RodState → Nat
  | .rack => 0
  | .handling => 1
  | .string => 2
  | .laidDown => 3
  | .lost => 4

/-- The code of a connection state (R22). -/
def ConnState.code : ConnState → Nat
  | .free => 0
  | .addPicked => 1
  | .addStabbed => 2
  | .breakRequested => 3
  | .breakOpen => 4
  | .fault _ => 5

/-- The code of the connection state a fault came from (R22). -/
def Origin.code : Origin → Nat
  | .addPicked => 1
  | .addStabbed => 2
  | .breakRequested => 3
  | .breakOpen => 4

/-- The code of a fault cause (R22). -/
def ConnCause.code : ConnCause → Nat
  | .slipsLost => 0
  | .pumpedOnBreak _ => 1

/-- The code of a completion kind (R31). -/
def CompletionKind.code : CompletionKind → Nat
  | .madeUp => 0
  | .racked => 1
  | .laidDown => 2
  | .resolved => 3

/-- The code of a slips state (R11). -/
def Slips.code : Slips → Nat
  | .set => 0
  | .released => 1

/-- The code of a depth status (R14). -/
def DepthStatus.code : DepthStatus → Nat
  | .reliable => 0
  | .faulted => 1

/-- The place of an activity among the meters, and its code (R112; entry 27). -/
def Activity.code : Activity → Nat
  | .drilling => 0
  | .tripping => 1
  | .circulating => 2
  | .lossControl => 3
  | .standby => 4
  | .downtimeRig => 5
  | .downtimeClient => 6

/-- The code of a job state (R131). -/
def JobState.code : JobState → Nat
  | .noJob => 0
  | .opened => 1
  | .closing _ => 2

/-- The code of a phase (R131). -/
def Phase.code : Phase → Nat
  | .held => 0
  | .offered => 1

/-- The code of an area (R188). -/
def AreaId.code : AreaId → Nat
  | .settings => 0
  | .rods => 1
  | .strata => 2
  | .jobs => 3

/-- The code of a discard cause (R188). -/
def FrameCause.code : FrameCause → Nat
  | .length => 1
  | .timeout => 2
  | .check => 3
  | .overrun => 4

/-- The code of a controller state (R144). -/
def Ctl.code : Ctl → Nat
  | .ready => 0
  | .erasing _ => 1
  | .suspended _ => 2
  | .writing => 3
  | .failed => 4

/-- The code of an entry kind (R142). -/
def EntryBody.code : EntryBody → Nat
  | .strata _ => 0
  | .job _ => 1
  | .settings _ => 2
  | .rods _ => 3

/-- The code of a load result (R154). -/
def LoadResult.code : LoadResult → Nat
  | .none => 0
  | .clean => 1
  | .corrected => 2
  | .failedCheck => 3

/-- The code of a role (R172). -/
def Role.code : Role → Nat
  | .driller => 0
  | .handler => 1
  | .mud => 2
  | .office => 3
  | .observer => 4

/-- The code of a link letter (R172). -/
def Link.code : Link → Nat
  | .a => 0
  | .b => 1
  | .c => 2
  | .d => 3

/-- The code of a line speed (R170). -/
def Speed.code : Speed → Nat
  | .baud57600 => 0
  | .baud230400 => 1

/-- The code of a link state (R173). -/
def LinkState.code : LinkState → Nat
  | .active => 0
  | .locked => 1

/-! ### Line functions (R160) -/

/-- Is the function an input function? -/
def LineFn.isInput : LineFn → Bool
  | .stroke1 | .stroke2 | .returnFlow | .encoder | .slips | .generalIn => true
  | _ => false

/-- The lines a function may be given (R160). -/
def LineFn.allowedOn (f : LineFn) (i : Fin 12) : Bool :=
  match f with
  | .stroke1 => i == 0 || i == 1
  | .stroke2 => i == 1 || i == 2
  | .returnFlow => i == 2 || i == 3
  | .encoder => i == 4
  | .slips => i == 3 || i == 6
  | .pumpPermit | .attentionA => i == 7 || i == 8
  | .attentionB => i == 9
  | .attentionC => i == 10
  | .attentionD => i == 11
  | .generalIn | .generalOut => true

/-- May only one line hold the function? (R160.) -/
def LineFn.unique : LineFn → Bool
  | .generalIn | .generalOut => false
  | _ => true

/-- The default filter of an input function, in tenths of a millisecond (R160). -/
def LineFn.defaultFilter : LineFn → Nat
  | .stroke1 | .stroke2 => 20
  | .returnFlow => 10
  | .encoder => 5
  | .slips => 500
  | _ => 100

end Sys2Proof.Machine
end

