-- ==== Sys2Proof/Machine/Flags.lean ====
section
/-! DEFINITION. The levels and marks that follow from the units' state: raw values of the level conditions (R178), the
pump permit (R32), the attention outputs (R184), the levels and drives of the output lines (R159, R166, R169), and the
marks a link's request taking reads (R174). -/

namespace Sys2Proof.Machine

open Sys2Proof

/-- Is the permit withdrawn in a state a fault can come from? (R32.) -/
def Origin.withdrawn : Origin → Bool
  | .breakRequested | .breakOpen => true
  | .addPicked | .addStabbed => false

/-- Is the pump permit asserted in this connection state? (R32.) -/
def ConnState.permit : ConnState → Bool
  | .free | .addPicked | .addStabbed => true
  | .breakRequested | .breakOpen => false
  | .fault r => !r.origin.withdrawn

/-- Is either pump running? (R47.) -/
def CircUnit.anyRunning (u : CircUnit) : Bool := u.p1.running || u.p2.running

/-- Is the controller FAILED? -/
def Ctl.isFailed : Ctl → Bool
  | .failed => true
  | _ => false

/-- The raw value of a level condition (R178); false for a content condition, which has none. -/
def State.rawValue (s : State) : Cond → Bool
  | .pumpsRunning => s.ccu.anyRunning
  | .circLoss => s.ccu.lossRaw
  | .circGain => s.ccu.gainRaw
  | .slipsSet => s.str.slips == .set
  | .depthFault => s.str.depth == .faulted
  | .connectionFault => match s.cxu.state with
    | .fault _ => true
    | _ => false
  | .pumpPermit => s.cxu.state.permit
  | .storeFailed => s.rst.ctl.isFailed
  | .unconfigured => s.rst.unconfigured
  | .queueNearFull => s.lgu.nearRaw
  | _ => false

/-- Is a latch set whose condition is unmasked? Then the attention output is asserted (R184). -/
def LinkRec.attention (l : LinkRec) : Bool :=
  Cond.all.any (fun c => l.latches[c.idx].isSome && !l.masks[c.idx])

/-- The output level of a line holding an output function, from its owner (R166). -/
def State.outputLevel (s : State) (r : LineRec) : Option OutLevel :=
  let level (b : Bool) : OutLevel := if b then .asserted else .deasserted
  match r.cfg.fn with
  | .pumpPermit => some (level s.cxu.state.permit)
  | .attentionA => some (level s.liu.a.attention)
  | .attentionB => some (level s.liu.b.attention)
  | .attentionC => some (level s.liu.c.attention)
  | .attentionD => some (level s.liu.d.attention)
  | .generalOut => some r.general
  | _ => none

/-- The level to which a line drives its pin (true for high); none while the pin is released, as it is for an input, during
the start-up load and without power (R159, R169). -/
def State.pinDrive (s : State) (i : Fin 12) : Option Bool :=
  let r := s.flu.line i
  if s.power = .on && s.loaded then
    (s.outputLevel r).map (fun o =>
      match o, r.cfg.pol with
      | .asserted, .activeHigh | .deasserted, .activeLow => true
      | _, _ => false)
  else none

/-- The logical level at an input's pin: ACTIVE when the pin level matches the polarity (R159). -/
def LineRec.logical (r : LineRec) : Bool :=
  match r.cfg.pol with
  | .activeHigh => r.pin
  | .activeLow => !r.pin

/-- Has the link an outstanding request? It has exactly while one of its reads is in the store's read list (R174). -/
def State.outstanding (s : State) (ln : Link) : Bool := s.rst.readList.any (fun p => p.ln == ln)

/-- Is the link's reply list full? (R174.) -/
def State.repliesFull (s : State) (ln : Link) : Bool :=
  4 ≤ (s.link ln).replies.length || (3 ≤ (s.link ln).replies.length && s.outstanding ln)

/-- Is the head of the commit queue taken? (R142, R144.) -/
def Ctl.working : Ctl → Bool
  | .erasing _ | .suspended _ | .writing => true
  | .ready | .failed => false

end Sys2Proof.Machine
end

