-- ==== Sys2Proof/Machine/Layout.lean ====
section
/-! DEFINITION. Bytes on a link: number widths and byte order (R186), presence fields and lists (R187), the check byte
(R170), frames of replies and notices (R186, R188), and the layouts of records and sub-records (R190 and by R186). -/

namespace Sys2Proof.Machine

open Sys2Proof

/-! ### Numbers -/

/-- The low `w` bytes of a number, most significant first (R186). -/
def beBytes : Nat → Nat → List Byte
  | 0, _ => []
  | w + 1, v => beBytes w (v / 256) ++ [BitVec.ofNat 8 v]

/-- The number a row of bytes stands for, most significant byte first (R186). -/
def beVal (l : List Byte) : Nat := l.foldl (fun acc b => acc * 256 + b.toNat) 0

/-- An unsigned number in `w` bytes; one too wide for them gives free bytes (entry 15). -/
def num (w v : Nat) : List Byte :=
  if v < 256 ^ w then beBytes w v else beBytes w (Config.overWide w v % 256 ^ w)

/-- A signed number in 4 bytes, two's complement (R186); one too wide gives free bytes (entry 15). -/
def signed4 (v : Int) : List Byte :=
  if -2147483648 ≤ v ∧ v ≤ 2147483647 then beBytes 4 (v % 4294967296).toNat
  else beBytes 4 (Config.overWideSigned v % 4294967296)

/-- A flag in one byte, 1 for yes or on: DESIGN CHOICE, entry 51. -/
def flag (b : Bool) : List Byte := num 1 (if b then 1 else 0)

/-- An optional number: 0 bytes stand in its place while it is absent (R187). -/
def optNum (w : Nat) (o : Option Nat) : List Byte := num w (o.getD 0)

/-- The number whose lowest bit is the first mark. -/
def bitField : List Bool → Nat
  | [] => 0
  | b :: r => (if b then 1 else 0) + 2 * bitField r

/-- A presence field of `n` bytes, one bit a mark, the first in the lowest bit (R187). -/
def presence : Nat → List Bool → List Byte
  | 0, _ => []
  | n + 1, marks => num 1 (bitField (marks.take 8)) ++ presence n (marks.drop 8)

/-- A row of zero bytes. -/
def zeros (n : Nat) : List Byte := List.replicate n 0

/-- A list at its greatest length behind its count byte, unused items 0 (R187). -/
def listOf (most width : Nat) (items : List (List Byte)) : List Byte :=
  num 1 items.length ++ items.flatten ++ zeros ((most - items.length) * width)

/-- A sub-record, or as many zero bytes while it is absent (R187). -/
def optRec {α : Type} (width : Nat) (f : α → List Byte) : Option α → List Byte
  | some x => f x
  | none => zeros width

/-! ### The check byte and frames -/

/-- One bit of the CRC-8 x^8 + x^2 + x + 1, most significant bit first (R170). -/
def crcBit (c : Byte) : Byte := if c.msb then (c <<< 1) ^^^ 7 else c <<< 1

/-- One byte of the CRC-8 (R170). -/
def crcByte (c b : Byte) : Byte := crcBit (crcBit (crcBit (crcBit (crcBit (crcBit (crcBit (crcBit (c ^^^ b))))))))

/-- The CRC-8 of a row of bytes, from 0 (R170). -/
def crc8 (l : List Byte) : Byte := l.foldl crcByte 0

/-- A frame of a request or a reply: start byte 165, length, kind, tag, body, check byte (R186). -/
def frameOf (kind tag : Nat) (body : List Byte) : List Byte :=
  let covered := num 1 (body.length + 2) ++ num 1 kind ++ num 1 tag ++ body
  165 :: covered ++ [crc8 covered]

/-- The number of a content's qualifier (R188). -/
def Content.qualifier : Content → Nat
  | .droppedInterval _ => 1
  | .droppedJob _ => 2
  | .slot area _ => area.code
  | _ => 0

/-- The four value bytes of a content (R188). -/
def Content.value : Content → List Byte
  | .raw b => num 4 (if b then 1 else 0)
  | .interval n | .depth n | .droppedInterval n | .droppedJob n | .slot _ n => num 4 n
  | .jump mm => signed4 mm
  | .pump p => num 4 p.number
  | .cause c => num 4 c.code
  | .lostFrame c => num 4 c.number

/-- A content at the widths of R186, as Link Status carries it (R177). A dropped record's number stands behind the mark of
R188 for its kind, a slot's index behind its area. -/
def Content.bytes : Content → List Byte
  | .raw b => flag b
  | .interval n => num 2 n
  | .depth mm => num 3 mm
  | .jump mm => signed4 mm
  | .slot area n => num 1 area.code ++ num 2 n
  | .droppedInterval n => num 1 1 ++ num 2 n
  | .droppedJob n => num 1 2 ++ num 2 n
  | .pump p => num 1 p.number
  | .cause c => num 1 c.code
  | .lostFrame c => num 1 c.number

/-- The bytes that a condition's content takes in Link Status (R178, R186). -/
def Cond.contentWidth : Cond → Nat
  | .pumpsRunning | .circLoss | .circGain | .slipsSet | .depthFault | .connectionFault | .pumpPermit | .storeFailed
  | .unconfigured | .queueNearFull | .pumpInterlock | .frameError | .noticeOverflow => 1
  | .intervalClosed | .sampleDue | .sampleMissed | .stratumChange | .parcelUntracked => 2
  | .waterStrike | .geometryClamp | .storeCorrected | .commitDropped => 3
  | .depthJump => 4

/-- A notice frame (R188). -/
def noticeBytes (n : Notice) : List Byte :=
  let covered := num 1 11 ++ num 1 n.cond.number ++ num 1 0 ++ num 1 n.content.qualifier ++ n.content.value ++ num 4 n.seconds
  90 :: covered ++ [crc8 covered]

/-- One frame of a reply: status code first in its body (R186, R187). -/
def replyBytes (r : Reply) (part : Nat) : List Byte :=
  frameOf r.kind r.tag (num 1 r.status.code ++ (r.parts[part]?).getD [])

/-- The bytes of the frame a transmitter is sending. -/
def frameBytes : Sending → List Byte
  | .reply r part => replyBytes r part
  | .notice n => noticeBytes n

/-! ### Records -/

/-- A strata record: 34 bytes (R190). -/
def strataBytes (r : StrataRec) : List Byte :=
  presence 1 [r.rate.isSome, r.strike.isSome, r.lith.isSome, r.colour.isSome, r.status.isSome]
    ++ num 2 r.job ++ num 2 r.interval ++ num 3 r.top ++ num 3 r.bottom ++ num 4 r.seconds ++ optNum 3 r.rate
    ++ num 1 r.worst.code ++ optNum 3 r.strike ++ optNum 1 r.lith ++ optNum 1 r.colour ++ num 1 r.rock.code
    ++ optNum 1 (r.status.map SampleStatus.code) ++ listOf 3 1 (r.notes.map (num 1)) ++ num 4 r.closeTime

/-- A parcel summary: 23 bytes (R190). The sample status is present for a FINAL_WAITING parcel (R93). -/
def parcelBytes (p : Parcel) : List Byte :=
  let status := if p.status = .finalWaiting then p.record.status.map SampleStatus.code else none
  presence 1 [p.windowEnd.isSome, status.isSome] ++ num 2 p.record.interval ++ num 1 p.status.code ++ num 6 p.raw
    ++ num 6 p.eff ++ optNum 6 p.windowEnd ++ optNum 1 status

/-- A rod table entry (R2, R20). -/
def rodBytes (r : Rod) : List Byte :=
  num 2 r.id ++ num 1 r.cls ++ num 3 r.len ++ num 2 r.runs ++ num 1 r.state.code

/-- An item of a RODS image, its mark optional (R6). -/
def rodItemBytes (r : RodItem) : List Byte :=
  presence 1 [r.mark.isSome] ++ num 2 r.id ++ num 1 r.cls ++ num 3 r.len ++ num 2 r.runs
    ++ optNum 1 (r.mark.map (fun m => match m with
      | .laidDown => 0
      | .lost => 1))

/-- A BHA record: 7 bytes (R7). -/
def bhaBytes (b : Bha) : List Byte := num 3 b.len ++ num 3 b.cap ++ num 1 b.thread

/-- A rod class entry in Read Settings Image: its defined flag, which stands for the values' presence, and six bytes of
values, 0 while undefined (R1, R152, R187): DESIGN CHOICE, entry 53. -/
def classBytes (c : Option RodClass) : List Byte :=
  flag c.isSome ++ optRec 6 (fun c => num 1 c.thread ++ num 3 c.cap ++ num 2 c.torque) c

/-- Pump constants, with the flag of an unset displacement (R43, R60), which stands for its presence: DESIGN CHOICE,
entry 53. -/
def pumpConstBytes (c : PumpConst) : List Byte :=
  optNum 5 c.disp ++ flag c.disp.isNone ++ num 2 c.eff ++ num 4 c.timeout

/-- Circulation limits in the order of R51. -/
def limitsBytes (l : CircLimits) : List Byte :=
  num 2 l.gainT ++ num 2 l.fullT ++ num 2 l.totalT ++ num 3 l.window ++ num 5 l.pulse

/-- The hole section table and the surface line volume (R61, R63). -/
def sectionsBytes (sections : List Section) (surface : Nat) : List Byte :=
  listOf 8 6 (sections.map (fun x => num 3 x.bottom ++ num 3 x.cap)) ++ num 3 surface

/-- A lithology table (R100). -/
def lithBytes (l : List LithEntry) : List Byte :=
  listOf 63 2 (l.map (fun e => num 1 e.code ++ num 1 e.cls.code))

/-- A table of numbers, each in `w` bytes. -/
def tableBytes {n : Nat} (w : Nat) (v : Vector Nat n) : List Byte := (v.toList.map (num w)).flatten

/-- The tariff table and the two holds, in the order of Set Tariffs (R126, R139). -/
def tariffBytes (t : Tariff) (drillHold tripHold : Nat) : List Byte :=
  tableBytes 3 t.bounds ++ tableBytes 3 t.metre ++ tableBytes 3 t.hourly ++ num 3 t.mud ++ num 3 t.lostVolume
    ++ tableBytes 3 t.additive ++ tableBytes 3 t.lostRod ++ num 3 t.lostBha ++ num 3 t.mobilisation ++ num 4 drillHold
    ++ num 4 tripHold

/-- Job-close figures: 33 bytes (R58). -/
def figuresBytes (c : CloseFigures) : List Byte :=
  num 4 c.strokes1 ++ num 5 c.vol1 ++ num 4 c.strokes2 ++ num 5 c.vol2 ++ num 5 c.returned ++ num 5 c.lost ++ num 5 c.gain

/-- One line's settings: function, polarity, filter time optional (R143, R160). -/
def lineCfgBytes (c : LineCfg) : List Byte :=
  presence 1 [c.filter.isSome] ++ num 1 c.fn.code ++ num 1 c.pol.code ++ optNum 1 c.filter

/-- The 47 saturation marks in six bytes, line 1 in the lowest bit of the first (R189). -/
def markBytes (marks : List Bool) : List Byte := presence 6 marks

end Sys2Proof.Machine
end

