-- ==== Sys2Proof/WellFormed.lean ====
section
/-! DEFINITION. Which commands can occur: every operand fits the field R186 gives it, every list the count and places its
layout has (R187, R189), and an event's operands are those its rule allows. `exec` has a meaning for every command, well
formed or not; statements about the bytes of a frame ask for well-formed requests. -/

namespace Sys2Proof

open Machine

/-- Does the number fit `w` bytes (R186)? -/
def fits (w v : Nat) : Bool := v < 256 ^ w

/-- Do both parts of every pair fit, and are there at most `most` pairs? -/
def pairsFit (most w1 w2 : Nat) (l : List (Nat × Nat)) : Bool :=
  l.length ≤ most && l.all (fun p => fits w1 p.1 && fits w2 p.2)

/-- At most `most` codes of one byte. -/
def codesFit (most : Nat) (l : List Nat) : Bool := l.length ≤ most && l.all (fits 1)

/-- The values of a tariff table fit the widths of R186: depths and prices in three bytes. -/
def tariffFits (t : Tariff) : Bool :=
  t.bounds.toList.all (fits 3) && t.metre.toList.all (fits 3) && t.hourly.toList.all (fits 3) && fits 3 t.mud
    && fits 3 t.lostVolume && t.additive.toList.all (fits 3) && t.lostRod.toList.all (fits 3) && fits 3 t.lostBha
    && fits 3 t.mobilisation

/-- A strap names one of the four strapped roles (R172). -/
def strapRole : Role → Bool
  | .observer => false
  | _ => true

/-- The operands of a command fit its fields. -/
def WellFormed : Instr → Bool
  | .coldStart st _ decay =>
    strapRole st.roleA && strapRole st.roleB && strapRole st.roleC && strapRole st.roleD
      && decay.all (fun x => match x.area with
        | .settings | .rods => x.index < 2
        | .strata => x.index < 8192
        | .jobs => x.index < 64)
  | .startupLoadComplete | .timeBaseTick | .pumpTimeout _ | .pinLevelChange _ _ _ | .inputFilterExpiry _ => true
  | .windowCompletion | .dueDetection | .windowExpiry | .interByteTimeout _ => true
  | .frameDiscard _ cause => cause != .timeout
  | .unknownKind _ tag kind => fits 1 tag && fits 1 kind && (kind == 0 || 63 < kind)
  | .transmissionEnd _ | .eraseComplete _ | .writeComplete _ _ | .byteArrival _ _ _ | .powerLoss _ => true
  | .setRodClass _ tag cls _ thread cap torque => fits 1 tag && fits 1 cls && fits 1 thread && fits 3 cap && fits 2 torque
  | .registerRod _ tag rod cls len => fits 1 tag && fits 2 rod && fits 1 cls && fits 3 len
  | .layDownRod _ tag rod | .restoreRod _ tag rod | .retireRod _ tag rod | .readRod _ tag rod | .readRodTable _ tag rod
  | .pick _ tag rod => fits 1 tag && fits 2 rod
  | .saveRods _ tag | .readStringStatus _ tag | .stab _ tag | .abortAdd _ tag | .breakOut _ tag | .broken _ tag
  | .racked _ tag | .laidDown _ tag | .readConnectionStatus _ tag | .readCirculationStatus _ tag
  | .readLagGeometry _ tag | .readStrataStatus _ tag | .readLithologyTable _ tag | .downtimeEnd _ tag
  | .readJobMeters _ tag | .statement _ tag | .jobClose _ tag | .readTariffs _ tag | .saveSettings _ tag
  | .readStoreStatus _ tag | .readLineStatus _ tag | .linkReset _ tag | .linkStatus _ tag | .clearLock _ tag => fits 1 tag
  | .setBha _ tag len cap thread => fits 1 tag && fits 3 len && fits 3 cap && fits 1 thread
  | .setDepthLimits _ tag cpm tol => fits 1 tag && fits 2 cpm && fits 3 tol
  | .setBlockHeight _ tag height => fits 1 tag && fits 3 height
  | .declareString _ tag len cap thread runs =>
    fits 1 tag && fits 3 len && fits 3 cap && fits 1 thread && pairsFit 80 2 1 runs
  | .declareParted _ tag k => fits 1 tag && fits 2 k
  | .readStringList _ tag pos => fits 1 tag && fits 2 pos
  | .madeUp _ tag torque => fits 1 tag && fits 2 torque
  | .acknowledgeFault _ tag resolution => fits 1 tag && fits 1 resolution
  | .setPump _ tag pump disp eff timeout => fits 1 tag && fits 1 pump && fits 5 disp && fits 2 eff && fits 4 timeout
  | .setCirculationLimits _ tag g f t w p => fits 1 tag && fits 2 g && fits 2 f && fits 2 t && fits 3 w && fits 5 p
  | .setHoleSections _ tag sections surface => fits 1 tag && pairsFit 8 3 3 sections && fits 3 surface
  | .setSampleWindow _ tag volume level => fits 1 tag && fits 3 volume && fits 1 level
  | .logSample _ tag interval code colour notes =>
    fits 1 tag && fits 2 interval && fits 1 code && fits 1 (colour.getD 0) && codesFit 3 notes
  | .readCuttingsQueue _ tag pos => fits 1 tag && fits 1 pos
  | .setIntervalStep _ tag step => fits 1 tag && fits 3 step
  | .setLithologyTable _ tag entries => fits 1 tag && pairsFit 63 1 1 entries
  | .reportWaterStrike _ tag depth => fits 1 tag && fits 3 depth
  | .addNote _ tag interval note => fits 1 tag && fits 2 interval && fits 1 note
  | .readStrata _ tag index => fits 1 tag && fits 2 index
  | .readStrataLatest _ tag job => fits 1 tag && fits 2 job
  | .downtimeStart _ tag kind => fits 1 tag && fits 1 kind
  | .mixReport _ tag litres entries => fits 1 tag && fits 3 litres && pairsFit 8 1 2 entries
  | .setTariffs _ tag table drillHold tripHold => fits 1 tag && tariffFits table && fits 4 drillHold && fits 4 tripHold
  | .jobOpen _ tag job client start => fits 1 tag && fits 2 job && fits 4 client && fits 3 start
  | .readJob _ tag index part => fits 1 tag && fits 2 index && fits 1 part
  | .readSettingsImage _ tag part => fits 1 tag && fits 1 part
  | .readRodsImage _ tag start => fits 1 tag && fits 2 start
  | .setLineFunction _ tag line function polarity filter =>
    fits 1 tag && fits 1 line && fits 1 function && fits 1 polarity && fits 1 filter
  | .driveGeneralOutput _ tag line level => fits 1 tag && fits 1 line && fits 1 level
  | .setNoticeMasks _ tag conds _ => fits 1 tag && codesFit 23 conds
  | .clearNotices _ tag conds => fits 1 tag && codesFit 23 conds

end Sys2Proof
end

