-- ==== Sys2Proof/Decode.lean ====
section
/-! DEFINITION. Reading commands. No row of spec/opcode_table.json has bits, so `decodeTableWord` spells none. The bytes of
a request's body are read here (R186, R187, R189): `bodyLength` is the one length a kind allows, `decodeRequest` reads
the operands at their widths in the order the rules list them, and `encodeRequest` writes them. -/

namespace Sys2Proof

open Machine

/-- The command a table word spells: the rows give no bits, so none (spec/opcode_table.json). -/
def decodeTableWord (_nbits _w : Nat) : Option Instr := none

/-- The body length a request kind allows: its operands at their widths, lists at their greatest length (R173, R186). -/
def bodyLength : Kind → Nat
  | .setRodClass => 8
  | .registerRod => 6
  | .layDownRod | .restoreRod | .retireRod | .readRod | .readRodTable | .pick | .readStringList | .madeUp
  | .declareParted | .readStrata | .readStrataLatest | .readRodsImage => 2
  | .setBha => 7
  | .setDepthLimits => 5
  | .setBlockHeight | .setIntervalStep | .reportWaterStrike => 3
  | .declareString => 248
  | .acknowledgeFault | .readCuttingsQueue | .downtimeStart | .readSettingsImage => 1
  | .setPump => 12
  | .setCirculationLimits => 14
  | .setHoleSections => 52
  | .setSampleWindow => 4
  | .logSample => 9
  | .setLithologyTable => 127
  | .addNote => 3
  | .mixReport => 28
  | .setTariffs => 167
  | .jobOpen => 9
  | .readJob => 3
  | .setLineFunction => 4
  | .driveGeneralOutput => 2
  | .setNoticeMasks => 25
  | .clearNotices => 24
  | _ => 0

/-- The number in the `w` bytes of a body from byte `at_` on. -/
def fieldAt (body : List Byte) (at_ w : Nat) : Nat := beVal ((body.drop at_).take w)

/-- A flag byte; what a byte other than 0 and 1 means is open (entry 16). -/
def flagAt (body : List Byte) (at_ : Nat) : Bool :=
  match fieldAt body at_ 1 with
  | 0 => false
  | 1 => true
  | n => Config.otherFlag n

/-- The items of a list whose count byte is byte `at_`, each of `size` bytes; none beyond the count is read (R187). -/
def itemsAt {α : Type} (body : List Byte) (at_ size : Nat) (item : Nat → α) : List α :=
  (List.range (fieldAt body at_ 1)).map (fun k => item (at_ + 1 + k * size))

/-- A list of pairs of `w1` and `w2` bytes. -/
def pairsAt (body : List Byte) (at_ w1 w2 : Nat) : List (Nat × Nat) :=
  itemsAt body at_ (w1 + w2) (fun o => (fieldAt body o w1, fieldAt body (o + w1) w2))

/-- A list of one-byte codes. -/
def codesAt (body : List Byte) (at_ : Nat) : List Nat := itemsAt body at_ 1 (fun o => fieldAt body o 1)

/-- Six numbers of three bytes. -/
def six (body : List Byte) (o : Nat) : Vector Nat 6 :=
  let f k := fieldAt body (o + 3 * k) 3
  #v[f 0, f 1, f 2, f 3, f 4, f 5]

/-- Seven numbers of three bytes. -/
def seven (body : List Byte) (o : Nat) : Vector Nat 7 :=
  let f k := fieldAt body (o + 3 * k) 3
  #v[f 0, f 1, f 2, f 3, f 4, f 5, f 6]

/-- Four numbers of three bytes. -/
def four (body : List Byte) (o : Nat) : Vector Nat 4 :=
  let f k := fieldAt body (o + 3 * k) 3
  #v[f 0, f 1, f 2, f 3]

/-- Eight numbers of three bytes. -/
def eight (body : List Byte) (o : Nat) : Vector Nat 8 :=
  let f k := fieldAt body (o + 3 * k) 3
  #v[f 0, f 1, f 2, f 3, f 4, f 5, f 6, f 7]

/-- Twenty-four numbers of three bytes. -/
def twentyFour (body : List Byte) (o : Nat) : Vector Nat 24 :=
  let f k := fieldAt body (o + 3 * k) 3
  #v[f 0, f 1, f 2, f 3, f 4, f 5, f 6, f 7, f 8, f 9, f 10, f 11, f 12, f 13, f 14, f 15, f 16, f 17, f 18, f 19,
     f 20, f 21, f 22, f 23]

/-- The tariff table of a Set Tariffs body (R126). -/
def tariffAt (body : List Byte) : Tariff :=
  { bounds := six body 0, metre := twentyFour body 18, hourly := seven body 90, mud := fieldAt body 111 3
    lostVolume := fieldAt body 114 3, additive := eight body 117, lostRod := four body 141
    lostBha := fieldAt body 153 3, mobilisation := fieldAt body 156 3 }

/-- The request a complete frame carries, its body being of the length its kind allows. Of Log Sample's presence byte only
the lowest bit is looked at: DESIGN CHOICE, entry 55. Set Notice Masks carries latch-while-masked as 1 for on: DESIGN CHOICE,
entry 51. -/
def decodeRequest (ln : Link) (tag : Nat) (k : Kind) (body : List Byte) : Instr :=
  let u := fieldAt body
  match k with
  | .setRodClass => .setRodClass ln tag (u 0 1) (flagAt body 1) (u 2 1) (u 3 3) (u 6 2)
  | .registerRod => .registerRod ln tag (u 0 2) (u 2 1) (u 3 3)
  | .layDownRod => .layDownRod ln tag (u 0 2)
  | .restoreRod => .restoreRod ln tag (u 0 2)
  | .retireRod => .retireRod ln tag (u 0 2)
  | .saveRods => .saveRods ln tag
  | .setBha => .setBha ln tag (u 0 3) (u 3 3) (u 6 1)
  | .setDepthLimits => .setDepthLimits ln tag (u 0 2) (u 2 3)
  | .setBlockHeight => .setBlockHeight ln tag (u 0 3)
  | .declareString => .declareString ln tag (u 0 3) (u 3 3) (u 6 1) (pairsAt body 7 2 1)
  | .declareParted => .declareParted ln tag (u 0 2)
  | .readStringStatus => .readStringStatus ln tag
  | .readStringList => .readStringList ln tag (u 0 2)
  | .readRod => .readRod ln tag (u 0 2)
  | .readRodTable => .readRodTable ln tag (u 0 2)
  | .pick => .pick ln tag (u 0 2)
  | .stab => .stab ln tag
  | .madeUp => .madeUp ln tag (u 0 2)
  | .abortAdd => .abortAdd ln tag
  | .breakOut => .breakOut ln tag
  | .broken => .broken ln tag
  | .racked => .racked ln tag
  | .laidDown => .laidDown ln tag
  | .acknowledgeFault => .acknowledgeFault ln tag (u 0 1)
  | .readConnectionStatus => .readConnectionStatus ln tag
  | .setPump => .setPump ln tag (u 0 1) (u 1 5) (u 6 2) (u 8 4)
  | .setCirculationLimits => .setCirculationLimits ln tag (u 0 2) (u 2 2) (u 4 2) (u 6 3) (u 9 5)
  | .readCirculationStatus => .readCirculationStatus ln tag
  | .setHoleSections => .setHoleSections ln tag (pairsAt body 0 3 3) (u 49 3)
  | .readLagGeometry => .readLagGeometry ln tag
  | .setSampleWindow => .setSampleWindow ln tag (u 0 3) (u 3 1)
  | .logSample =>
    .logSample ln tag (u 1 2) (u 3 1) (if u 0 1 % 2 = 1 then some (u 4 1) else none) (codesAt body 5)
  | .readCuttingsQueue => .readCuttingsQueue ln tag (u 0 1)
  | .setIntervalStep => .setIntervalStep ln tag (u 0 3)
  | .setLithologyTable => .setLithologyTable ln tag (pairsAt body 0 1 1)
  | .reportWaterStrike => .reportWaterStrike ln tag (u 0 3)
  | .addNote => .addNote ln tag (u 0 2) (u 2 1)
  | .readStrataStatus => .readStrataStatus ln tag
  | .readLithologyTable => .readLithologyTable ln tag
  | .readStrata => .readStrata ln tag (u 0 2)
  | .readStrataLatest => .readStrataLatest ln tag (u 0 2)
  | .downtimeStart => .downtimeStart ln tag (u 0 1)
  | .downtimeEnd => .downtimeEnd ln tag
  | .mixReport => .mixReport ln tag (u 0 3) (pairsAt body 3 1 2)
  | .readJobMeters => .readJobMeters ln tag
  | .setTariffs => .setTariffs ln tag (tariffAt body) (u 159 4) (u 163 4)
  | .statement => .statement ln tag
  | .jobOpen => .jobOpen ln tag (u 0 2) (u 2 4) (u 6 3)
  | .jobClose => .jobClose ln tag
  | .readTariffs => .readTariffs ln tag
  | .saveSettings => .saveSettings ln tag
  | .readJob => .readJob ln tag (u 0 2) (u 2 1)
  | .readSettingsImage => .readSettingsImage ln tag (u 0 1)
  | .readRodsImage => .readRodsImage ln tag (u 0 2)
  | .readStoreStatus => .readStoreStatus ln tag
  | .setLineFunction => .setLineFunction ln tag (u 0 1) (u 1 1) (u 2 1) (u 3 1)
  | .driveGeneralOutput => .driveGeneralOutput ln tag (u 0 1) (u 1 1)
  | .readLineStatus => .readLineStatus ln tag
  | .linkReset => .linkReset ln tag
  | .linkStatus => .linkStatus ln tag
  | .clearLock => .clearLock ln tag
  | .setNoticeMasks => .setNoticeMasks ln tag (codesAt body 0) (flagAt body 24)
  | .clearNotices => .clearNotices ln tag (codesAt body 0)

/-- A list of pairs at its greatest length. -/
def pairBytes (most w1 w2 : Nat) (l : List (Nat × Nat)) : List Byte :=
  listOf most (w1 + w2) (l.map (fun p => num w1 p.1 ++ num w2 p.2))

/-- The link, tag, kind and body of the frame that carries a request; none for a command that is no request. -/
def encodeRequest : Instr → Option (Link × Nat × Kind × List Byte)
  | .setRodClass ln tag cls defined thread cap torque =>
    some (ln, tag, .setRodClass, num 1 cls ++ flag defined ++ num 1 thread ++ num 3 cap ++ num 2 torque)
  | .registerRod ln tag rod cls len => some (ln, tag, .registerRod, num 2 rod ++ num 1 cls ++ num 3 len)
  | .layDownRod ln tag rod => some (ln, tag, .layDownRod, num 2 rod)
  | .restoreRod ln tag rod => some (ln, tag, .restoreRod, num 2 rod)
  | .retireRod ln tag rod => some (ln, tag, .retireRod, num 2 rod)
  | .saveRods ln tag => some (ln, tag, .saveRods, [])
  | .setBha ln tag len cap thread => some (ln, tag, .setBha, num 3 len ++ num 3 cap ++ num 1 thread)
  | .setDepthLimits ln tag cpm tol => some (ln, tag, .setDepthLimits, num 2 cpm ++ num 3 tol)
  | .setBlockHeight ln tag height => some (ln, tag, .setBlockHeight, num 3 height)
  | .declareString ln tag len cap thread runs =>
    some (ln, tag, .declareString, num 3 len ++ num 3 cap ++ num 1 thread ++ pairBytes 80 2 1 runs)
  | .declareParted ln tag k => some (ln, tag, .declareParted, num 2 k)
  | .readStringStatus ln tag => some (ln, tag, .readStringStatus, [])
  | .readStringList ln tag pos => some (ln, tag, .readStringList, num 2 pos)
  | .readRod ln tag rod => some (ln, tag, .readRod, num 2 rod)
  | .readRodTable ln tag start => some (ln, tag, .readRodTable, num 2 start)
  | .pick ln tag rod => some (ln, tag, .pick, num 2 rod)
  | .stab ln tag => some (ln, tag, .stab, [])
  | .madeUp ln tag torque => some (ln, tag, .madeUp, num 2 torque)
  | .abortAdd ln tag => some (ln, tag, .abortAdd, [])
  | .breakOut ln tag => some (ln, tag, .breakOut, [])
  | .broken ln tag => some (ln, tag, .broken, [])
  | .racked ln tag => some (ln, tag, .racked, [])
  | .laidDown ln tag => some (ln, tag, .laidDown, [])
  | .acknowledgeFault ln tag resolution => some (ln, tag, .acknowledgeFault, num 1 resolution)
  | .readConnectionStatus ln tag => some (ln, tag, .readConnectionStatus, [])
  | .setPump ln tag pump disp eff timeout =>
    some (ln, tag, .setPump, num 1 pump ++ num 5 disp ++ num 2 eff ++ num 4 timeout)
  | .setCirculationLimits ln tag g f t w p =>
    some (ln, tag, .setCirculationLimits, num 2 g ++ num 2 f ++ num 2 t ++ num 3 w ++ num 5 p)
  | .readCirculationStatus ln tag => some (ln, tag, .readCirculationStatus, [])
  | .setHoleSections ln tag sections surface =>
    some (ln, tag, .setHoleSections, pairBytes 8 3 3 sections ++ num 3 surface)
  | .readLagGeometry ln tag => some (ln, tag, .readLagGeometry, [])
  | .setSampleWindow ln tag volume level => some (ln, tag, .setSampleWindow, num 3 volume ++ num 1 level)
  | .logSample ln tag interval code colour notes =>
    some (ln, tag, .logSample, presence 1 [colour.isSome] ++ num 2 interval ++ num 1 code ++ optNum 1 colour
      ++ listOf 3 1 (notes.map (num 1)))
  | .readCuttingsQueue ln tag pos => some (ln, tag, .readCuttingsQueue, num 1 pos)
  | .setIntervalStep ln tag step => some (ln, tag, .setIntervalStep, num 3 step)
  | .setLithologyTable ln tag entries => some (ln, tag, .setLithologyTable, pairBytes 63 1 1 entries)
  | .reportWaterStrike ln tag depth => some (ln, tag, .reportWaterStrike, num 3 depth)
  | .addNote ln tag interval note => some (ln, tag, .addNote, num 2 interval ++ num 1 note)
  | .readStrataStatus ln tag => some (ln, tag, .readStrataStatus, [])
  | .readLithologyTable ln tag => some (ln, tag, .readLithologyTable, [])
  | .readStrata ln tag index => some (ln, tag, .readStrata, num 2 index)
  | .readStrataLatest ln tag job => some (ln, tag, .readStrataLatest, num 2 job)
  | .downtimeStart ln tag kind => some (ln, tag, .downtimeStart, num 1 kind)
  | .downtimeEnd ln tag => some (ln, tag, .downtimeEnd, [])
  | .mixReport ln tag litres entries => some (ln, tag, .mixReport, num 3 litres ++ pairBytes 8 1 2 entries)
  | .readJobMeters ln tag => some (ln, tag, .readJobMeters, [])
  | .setTariffs ln tag table drillHold tripHold => some (ln, tag, .setTariffs, tariffBytes table drillHold tripHold)
  | .statement ln tag => some (ln, tag, .statement, [])
  | .jobOpen ln tag job client start => some (ln, tag, .jobOpen, num 2 job ++ num 4 client ++ num 3 start)
  | .jobClose ln tag => some (ln, tag, .jobClose, [])
  | .readTariffs ln tag => some (ln, tag, .readTariffs, [])
  | .saveSettings ln tag => some (ln, tag, .saveSettings, [])
  | .readJob ln tag index part => some (ln, tag, .readJob, num 2 index ++ num 1 part)
  | .readSettingsImage ln tag part => some (ln, tag, .readSettingsImage, num 1 part)
  | .readRodsImage ln tag start => some (ln, tag, .readRodsImage, num 2 start)
  | .readStoreStatus ln tag => some (ln, tag, .readStoreStatus, [])
  | .setLineFunction ln tag line function polarity filter =>
    some (ln, tag, .setLineFunction, num 1 line ++ num 1 function ++ num 1 polarity ++ num 1 filter)
  | .driveGeneralOutput ln tag line level => some (ln, tag, .driveGeneralOutput, num 1 line ++ num 1 level)
  | .readLineStatus ln tag => some (ln, tag, .readLineStatus, [])
  | .linkReset ln tag => some (ln, tag, .linkReset, [])
  | .linkStatus ln tag => some (ln, tag, .linkStatus, [])
  | .clearLock ln tag => some (ln, tag, .clearLock, [])
  | .setNoticeMasks ln tag conds latchWhileMasked =>
    some (ln, tag, .setNoticeMasks, listOf 23 1 (conds.map (num 1)) ++ flag latchWhileMasked)
  | .clearNotices ln tag conds => some (ln, tag, .clearNotices, listOf 23 1 (conds.map (num 1)))
  | .coldStart _ _ _ | .startupLoadComplete | .timeBaseTick | .pumpTimeout _ | .pinLevelChange _ _ _
  | .inputFilterExpiry _ | .windowCompletion | .dueDetection | .windowExpiry | .interByteTimeout _
  | .frameDiscard _ _ | .unknownKind _ _ _ | .transmissionEnd _ | .eraseComplete _ | .writeComplete _ _
  | .byteArrival _ _ _ | .powerLoss _ => none

end Sys2Proof
end

