-- ==== Sys2Proof/Machine/Notices.lean ====
section
/-! DEFINITION. The transmitter and the reply list of a link (R174, R175), firings, latches, masks and the notice queue
(R178 to R180). Each operation changes the Link Interface Unit and nothing else. -/

namespace Sys2Proof.Machine

open Sys2Proof

/-! ### One link -/

/-- The latch of a condition. -/
def LinkRec.latch (l : LinkRec) (c : Cond) : Option Latch := l.latches[c.idx]

/-- Is the condition masked? -/
def LinkRec.masked (l : LinkRec) (c : Cond) : Bool := l.masks[c.idx]

/-- Write the latch of a condition. -/
def LinkRec.putLatch (l : LinkRec) (c : Cond) (x : Option Latch) : LinkRec := { l with latches := l.latches.set c.idx x }

/-- At the departure of a frame from the notice queue, an owed overflow frame stops being owed and joins the queue if its
latch is set and unmasked (R180). -/
def LinkRec.afterDeparture (l : LinkRec) : LinkRec :=
  if l.owed then
    match l.latch .noticeOverflow with
    | some x =>
      if l.masked .noticeOverflow then { l with owed := false }
      else { l with owed := false, notices := l.notices ++ [⟨.noticeOverflow, x.content, x.seconds⟩] }
    | none => { l with owed := false }
  else l

/-- An idle transmitter sends the oldest reply, else the oldest notice frame, else stays idle (R175). -/
def LinkRec.sendNext (l : LinkRec) : LinkRec :=
  match l.sending with
  | some _ => l
  | none =>
    match l.replies with
    | r :: rs => { l with replies := rs, sending := some (.reply r 0) }
    | [] =>
      match l.notices with
      | n :: ns => LinkRec.afterDeparture { l with notices := ns, sending := some (.notice n) }
      | [] => l

/-- The end of a frame's transmission (R175): the next frame of the same reply, if it has one (R189), else the transmitter
is idle and sends what waits. An idle transmitter has no frame to end. -/
def LinkRec.transmissionEnd (l : LinkRec) : LinkRec :=
  match l.sending with
  | none => l
  | some (.reply r part) =>
    if part + 1 < r.parts.length then { l with sending := some (.reply r (part + 1)) }
    else LinkRec.sendNext { l with sending := none }
  | some (.notice _) => LinkRec.sendNext { l with sending := none }

/-- A reply is made: it joins the reply list, and is sent at once by an idle transmitter (R174, R175). -/
def LinkRec.addReply (l : LinkRec) (r : Reply) : LinkRec := LinkRec.sendNext { l with replies := l.replies ++ [r] }

/-- NOTICE_OVERFLOW fires for this link, whose notice queue is full, with the condition whose frame was lost (R180). -/
def LinkRec.fireOverflow (l : LinkRec) (lostFrame : Cond) (clock : Nat) : LinkRec :=
  match l.latch .noticeOverflow with
  | some _ => l
  | none =>
    let x : Latch := ⟨.lostFrame lostFrame, clock⟩
    if l.masked .noticeOverflow then
      if l.latchWhileMasked then l.putLatch .noticeOverflow (some x) else l
    else { l.putLatch .noticeOverflow (some x) with owed := true }

/-- Queue the notice frame of a set latch (R180). A frame that finds the queue full is lost and counted; the overflow
condition's own frame becomes owed instead (R180, R181). -/
def LinkRec.queueNotice (l : LinkRec) (c : Cond) (x : Latch) (clock : Nat) : LinkRec :=
  if l.notices.length < 16 then
    LinkRec.sendNext { l with notices := l.notices ++ [⟨c, x.content, x.seconds⟩] }
  else if c = .noticeOverflow then { l with owed := true }
  else LinkRec.fireOverflow { l with lost := heldSum max16 l.lost 1 } c clock

/-- A condition fires for this link (R179). -/
def LinkRec.fire (l : LinkRec) (c : Cond) (content : Content) (clock : Nat) : LinkRec :=
  match l.latch c with
  | some _ => l
  | none =>
    let x : Latch := ⟨content, clock⟩
    if l.masked c then
      if l.latchWhileMasked then l.putLatch c (some x) else l
    else (l.putLatch c (some x)).queueNotice c x clock

/-! ### The machine -/

/-- A common condition fires: its firing is handed to each of the four links (R178). -/
def State.fire (s : State) (c : Cond) (content : Content) : State :=
  s.modLinks (fun l => l.fire c content s.jmu.clock)

/-- A level condition fires if its raw value is not what it was (R178). -/
def State.fireLevel (s : State) (c : Cond) (before after : Bool) : State :=
  if before = after then s else s.fire c (.raw after)

/-- A condition of one link fires (R178). -/
def State.fireOn (s : State) (ln : Link) (c : Cond) (content : Content) : State :=
  s.modLink ln (fun l => l.fire c content s.jmu.clock)

/-- A reply is made on a link. -/
def State.reply (s : State) (ln : Link) (r : Reply) : State := s.modLink ln (fun l => l.addReply r)

/-- A frame is discarded without reply (R171): the receiver hunts again, the frame error count rises, FRAME_ERROR fires for
this link alone. -/
def State.discardFrame (s : State) (ln : Link) (cause : FrameCause) : State :=
  (s.modLink ln (fun l => { l with rx := .hunting, frameErrors := heldSum max16 l.frameErrors 1 })).fireOn ln .frameError
    (.cause cause)

/-- Several firings of one condition, in order. -/
def State.fireEach (s : State) (c : Cond) (contents : List Content) : State :=
  contents.foldl (fun s x => s.fire c x) s

end Sys2Proof.Machine
end

