-- ==== Sys2Proof/Machine/RecordStore.lean ====
section
/-! DEFINITION. The record store's memory and reads: image areas and rings (R140, R141), offers to the commit queue (R142),
the outcome of reading a slot (R151), the five reads (R152), and their service and deferral (R149, R150). -/

namespace Sys2Proof.Machine

open Sys2Proof

/-! ### Image areas -/

/-- One slot of an image area; none is BLANK. -/
def ImageArea.get {α : Type} (a : ImageArea α) (i : Nat) : Option (Slot α) := if i = 0 then a.slot0 else a.slot1

/-- Replace one slot of an image area. -/
def ImageArea.put {α : Type} (a : ImageArea α) (i : Nat) (x : Option (Slot α)) : ImageArea α :=
  if i = 0 then { a with slot0 := x } else { a with slot1 := x }

/-- Is the block blank (R140)? -/
def ImageArea.isBlank {α : Type} (a : ImageArea α) : Bool := a.slot0.isNone && a.slot1.isNone

/-- Is the slot WRITTEN? -/
def isWritten {α : Type} : Option (Slot α) → Bool
  | some (.written _ _) => true
  | _ => false

/-- Is the slot VOID? -/
def isVoid {α : Type} : Option (Slot α) → Bool
  | some .void => true
  | _ => false

/-- The slot an image read selects: the WRITTEN one, or slot 1 when slot 0 is VOID (R152). Slot 0 for a block that is
BLANK: DESIGN CHOICE, entry 49. -/
def ImageArea.readSlot {α : Type} (a : ImageArea α) : Nat :=
  if isWritten a.slot0 then 0
  else if isWritten a.slot1 then 1
  else if isVoid a.slot0 then 1
  else 0

/-! ### Rings -/

variable {blocks per : Nat} {α : Type}

/-- The slot at an index; none is BLANK. -/
def Ring.get (r : Ring blocks per α) (i : Nat) : Option (Slot α) := (r.slots.find? (fun p => p.1 == i)).map (·.2)

/-- The canonical form: indices strictly rise and lie in the ring. -/
def Ring.wf (r : Ring blocks per α) : Bool :=
  strictlyRising (r.slots.map (·.1)) && r.slots.all (fun p => p.1 < blocks * per)

/-- The sequence number of a block. -/
def Ring.seq (r : Ring blocks per α) (b : Nat) : Option Nat := (r.seqs[b]?).join

/-- The greatest sequence number in the area, 0 when there is none. -/
def Ring.greatest (r : Ring blocks per α) : Nat := (r.seqs.toList.map (fun q => q.getD 0)).foldl max 0

/-- Write the slot at an index of the ring. The first slot written in a block since its last erase gives the block its
sequence number (R140). -/
def Ring.write (r : Ring blocks per α) (i : Nat) (x : Slot α) : Ring blocks per α :=
  if i < blocks * per then
    { slots := insertRising (·.1) (i, x) r.slots
      seqs :=
        match r.seq (i / per) with
        | some _ => r.seqs
        | none => r.seqs.setIfInBounds (i / per) (some (r.greatest + 1)) }
  else r

/-- Erase a block: its slots become BLANK and its sequence number absent (R145). -/
def Ring.erase (r : Ring blocks per α) (b : Nat) : Ring blocks per α :=
  { slots := r.slots.filter (fun p => p.1 / per != b), seqs := r.seqs.setIfInBounds b none }

/-- Add wrong bits to the content of a slot that is WRITTEN (entry 12). -/
def Slot.decay (x : Slot α) (n : Nat) : Slot α :=
  match x with
  | .written c k => .written c (k + n)
  | .void => .void

/-- Add wrong bits to one slot of a ring. -/
def Ring.decay (r : Ring blocks per α) (i n : Nat) : Ring blocks per α :=
  { r with slots := r.slots.map (fun p => if p.1 = i then (p.1, p.2.decay n) else p) }

/-- The index after an index, around the ring (R141). -/
def Ring.after (_ : Ring blocks per α) (i : Nat) : Nat := if i + 1 < blocks * per then i + 1 else 0

/-- The write position found at cold start (R141). -/
def Ring.findPos (r : Ring blocks per α) : Nat :=
  if r.seqs.toList.all (fun q => q.isNone) then 0
  else
    let b := r.seqs.toList.idxOf (some r.greatest)
    match ((r.slots.map (·.1)).filter (fun i => i / per == b)).getLast? with
    | some i => if (i + 1) / per = b then i + 1 else ((b + 1) % blocks) * per
    | none => b * per

/-- The slots that are not BLANK, backward from the slot before a position and around the ring (R152). -/
def Ring.backward (r : Ring blocks per α) (pos : Nat) : List (Nat × Slot α) :=
  (r.slots.filter (fun p => p.1 < pos)).reverse ++ (r.slots.filter (fun p => pos ≤ p.1)).reverse

/-! ### Offers (R142) -/

/-- The outcomes of an offer. -/
inductive Offer where
  | accepted | full | failed
deriving DecidableEq, Repr

/-- Is it an image, which a queued image of its kind gives way to? -/
def EntryBody.isImage : EntryBody → Bool
  | .settings _ | .rods _ => true
  | _ => false

/-- Replace the content of the first entry of this kind, if there is one. -/
def replaceImage (b : EntryBody) : List Entry → Option (List Entry)
  | [] => none
  | e :: es =>
    if e.body.code = b.code then some ({ e with body := b } :: es)
    else (replaceImage b es).map (fun r => e :: r)

/-- The same among the entries that are queued and not taken. -/
def replaceQueued (b : EntryBody) (ctl : Ctl) (q : List Entry) : Option (List Entry) :=
  if ctl.working then
    match q with
    | [] => none
    | e :: es => (replaceImage b es).map (fun r => e :: r)
  else replaceImage b q

/-- The capacity of the commit queue (R142). -/
def commitRoom : Nat := 12

/-- An offer to the commit queue, decided by the first case of R142 that holds. -/
def Store.offer (u : Store) (b : EntryBody) : Store × Offer :=
  if u.ctl.isFailed then (u, .failed)
  else
    match (if b.isImage then replaceQueued b u.ctl u.queue else none) with
    | some q => ({ u with queue := q }, .accepted)
    | none =>
      if u.queue.length < commitRoom then ({ u with queue := u.queue ++ [⟨b, 0⟩] }, .accepted)
      else (u, .full)

/-! ### Reading a slot (R151) -/

/-- The outcomes of reading one slot. -/
inductive ReadOut (α : Type) where
  | contents (c : α) (corrected : Bool)
  | erased | notFound | damaged
deriving DecidableEq, Repr

/-- The outcome a slot gives: the check corrects one wrong bit and gives no contents for more (R140, R151). -/
def readOut : Option (Slot α) → ReadOut α
  | none => .erased
  | some .void => .notFound
  | some (.written c 0) => .contents c false
  | some (.written c 1) => .contents c true
  | some (.written _ _) => .damaged

/-- The outcome of reading an image area: a block with no WRITTEN slot reads as ERASED (R152). -/
def ImageArea.readOut (a : ImageArea α) : ReadOut α :=
  if isWritten (a.get a.readSlot) then Machine.readOut (a.get a.readSlot) else .erased

/-- The status and bytes of a reply to a read of one slot: the index, the corrected flag, the contents (R187), or the
status and index alone. -/
def ReadOut.reply (o : ReadOut α) (index : Nat) (f : α → List Byte) : Status × List Byte :=
  match o with
  | .contents c corrected => (.ok, num 2 index ++ flag corrected ++ f c)
  | .erased => (.erased, num 2 index)
  | .notFound => (.notFound, num 2 index)
  | .damaged => (.damaged, num 2 index)

/-- Did the read correct an error? -/
def ReadOut.corrected : ReadOut α → Bool
  | .contents _ b => b
  | _ => false

/-- STORE_CORRECTED fires if a read corrected an error (R151). -/
def State.fireCorrected (s : State) (o : Bool) (area : AreaId) (index : Nat) : State :=
  if o then s.fire .storeCorrected (.slot area index) else s

/-! ### The reads (R152) -/

/-- The part of a job record in one reply (R189). -/
def jobPartBytes (r : JobRecord) : Nat → List Byte
  | 1 =>
    num 2 r.ident.number ++ num 4 r.ident.client ++ num 3 r.ident.start ++ num 3 r.hole ++ num 4 r.clock
      ++ tableBytes 4 r.meters ++ tableBytes 3 r.cells ++ tableBytes 3 r.bounds ++ num 2 r.intervals
  | 2 =>
    num 5 r.mud ++ tableBytes 4 r.sacks ++ num 5 r.lostVolume ++ num 2 r.lostBha ++ tableBytes 2 r.lostRods
      ++ num 4 r.figures.strokes1 ++ num 5 r.figures.vol1 ++ num 4 r.figures.strokes2 ++ num 5 r.figures.vol2
      ++ num 5 r.figures.returned ++ num 5 r.figures.gain
  | _ =>
    (r.amounts.map (fun a => num 4 a.1)).flatten ++ markBytes (r.amounts.map (·.2)) ++ num 4 r.total ++ flag r.saturated

/-- The group of a settings image a part number names, in the order of R143. -/
def settingsPartBytes (x : Settings) : Nat → List Byte
  | 1 => (x.classes.toList.map classBytes).flatten
  | 2 => num 2 x.cpm ++ num 3 x.tol
  | 3 => pumpConstBytes x.pump1 ++ pumpConstBytes x.pump2
  | 4 => limitsBytes x.limits
  | 5 => sectionsBytes x.sections x.surface
  | 6 => num 3 x.sampleWindow ++ num 1 x.nearLevel ++ num 3 x.step
  | 7 => lithBytes x.lith
  | 8 => tariffBytes x.tariff x.drillHold x.tripHold
  | _ => (x.lines.toList.map lineCfgBytes).flatten

/-- Up to 24 items of a RODS image from a position on, then the image's item count (R152, R187). -/
def rodsPartBytes (items : List RodItem) (start : Nat) : List Byte :=
  listOf 24 10 (((items.drop (start - 1)).take 24).map rodItemBytes) ++ num 2 items.length

/-- The search of Read Strata Latest over the slots it passes: VOID and DAMAGED ones are skipped, each corrected record
fires, and the first record of the job ends it (R152). -/
def searchLatest (job : Nat) : List (Nat × Slot StrataRec) → State → State × Option (Nat × Bool × StrataRec)
  | [], s => (s, none)
  | (i, x) :: rest, s =>
    match readOut (some x) with
    | .contents r corrected =>
      let s := s.fireCorrected corrected .strata i
      if r.job = job then (s, some (i, corrected, r)) else searchLatest job rest s
    | _ => searchLatest job rest s

/-- Serve a read: its firings, and the status and bytes of its reply (R151, R152). -/
def serve (req : ReadReq) (s : State) : State × Status × List Byte :=
  match req with
  | .strata i =>
    let o := readOut (s.rst.areas.strata.get i)
    (s.fireCorrected o.corrected .strata i, o.reply i strataBytes)
  | .latest job =>
    match searchLatest job (s.rst.areas.strata.backward s.rst.strataPos) s with
    | (s, some (i, corrected, r)) => (s, .ok, num 2 i ++ flag corrected ++ strataBytes r)
    | (s, none) => (s, .notFound, [])
  | .job i part =>
    let o := readOut (s.rst.areas.jobs.get i)
    (s.fireCorrected o.corrected .jobs i, o.reply i (fun r => jobPartBytes r part))
  | .settings part =>
    let a := s.rst.areas.settings
    (s.fireCorrected a.readOut.corrected .settings a.readSlot,
      a.readOut.reply a.readSlot (fun x => settingsPartBytes x part))
  | .rods start =>
    let a := s.rst.areas.rods
    (s.fireCorrected a.readOut.corrected .rods a.readSlot,
      a.readOut.reply a.readSlot (fun x => rodsPartBytes x start))

/-- The kind value a read's reply carries. -/
def ReadReq.kind : ReadReq → Kind
  | .strata _ => .readStrata
  | .latest _ => .readStrataLatest
  | .job _ _ => .readJob
  | .settings _ => .readSettingsImage
  | .rods _ => .readRodsImage

/-- Serve one pending read: its reply is made with its tag (R149). -/
def State.serveOne (s : State) (p : PendingRead) : State :=
  let (s, st, bytes) := serve p.req s
  s.reply p.ln ⟨p.req.kind.number, p.tag, st, [bytes]⟩

/-- Serve pending reads, oldest first: each leaves the read list as it is served (R149). -/
def serveList : List PendingRead → State → State
  | [], s => s
  | p :: ps, s => serveList ps ((s.modRst (fun u => { u with readList := ps })).serveOne p)

/-- Serve every read that waits. -/
def State.serveReads (s : State) : State := serveList s.rst.readList s

/-- The erasing time run, in tenths of a millisecond (R150). -/
def Erase.ran (e : Erase) (now : Nat) : Nat := e.run + (now - e.since)

/-- An erase paused to serve reads: its time is kept and its suspensions counted (R150). -/
def Erase.pause (e : Erase) (now : Nat) : Erase :=
  { e with run := e.ran now, suspensions := e.suspensions + 1 }

/-- A suspended erase resumes once no read waits (R150). -/
def State.resumeErase (s : State) : State :=
  match s.rst.ctl, s.rst.readList with
  | .suspended e, [] => s.modRst (fun u => { u with ctl := .erasing { e with since := s.now } })
  | _, _ => s

/-- In ERASE_SUSPENDED the oldest read of the list is in service: the service ends, and with the last read the suspension
(R150). -/
def State.serveSuspended (s : State) : State :=
  match s.rst.ctl, s.rst.readList with
  | .suspended _, p :: ps => ((s.modRst (fun u => { u with readList := ps })).serveOne p).resumeErase
  | .suspended _, [] => s.resumeErase
  | _, _ => s

/-- Every read of a suspension is served and the erase resumes (R150). -/
def State.endSuspension (s : State) : State :=
  match s.rst.ctl with
  | .suspended _ => s.serveReads.resumeErase
  | _ => s

/-- A Link Reset takes a link's read out of the list, without a reply. A read in service is completed: what it corrected
fires (R149), and it fires before steps 2 to 4 of R176: DESIGN CHOICE, entry 56. An erase that no read then holds up
resumes. -/
def State.dropRead (s : State) (ln : Link) : State :=
  let t :=
    match s.rst.ctl, s.rst.readList with
    | .suspended _, p :: _ => if p.ln = ln then (serve p.req s).1 else s
    | _, _ => s
  (t.modRst (fun u => { u with readList := u.readList.filter (fun p => p.ln != ln) })).resumeErase

/-! ### Answers -/

/-- How a request is answered: a reply made as it is taken, or later by the store (R174). -/
inductive Answer where
  | reply (status : Status) (parts : List (List Byte))
  | deferred
deriving DecidableEq, Repr

/-- Refuse a request, or accept one whose reply has no fields: the status alone (R187). -/
def say (st : Status) (s : State) : State × Answer := (s, .reply st [[]])

/-- Answer a read with its fields. -/
def tell (bytes : List Byte) (s : State) : State × Answer := (s, .reply .ok [bytes])

/-- OK, or CLAMPED when a value was brought in (00_scope.md, Settings). -/
def okOr (clamped : Bool) : Status := if clamped then .clamped else .ok

/-- Join the read list; the reply comes later (R149). -/
def State.defer (s : State) (p : PendingRead) : State × Answer :=
  (s.modRst (fun u => { u with readList := u.readList ++ [p] }), .deferred)

/-- Take a store read whose operands are in range (R149, R150). A read that suspends an erase is in service until the
service ends (entry 30); those taken meanwhile join it in the list. -/
def takeRead (ln : Link) (tag : Nat) (req : ReadReq) (s : State) : State × Answer :=
  match s.rst.ctl with
  | .ready | .failed =>
    let (s, st, bytes) := serve req s
    (s, .reply st [bytes])
  | .erasing e =>
    if e.suspensions < 8 then
      (s.modRst (fun u => { u with ctl := .suspended (e.pause s.now) })).defer ⟨ln, tag, req⟩
    else s.defer ⟨ln, tag, req⟩
  | .writing | .suspended _ => s.defer ⟨ln, tag, req⟩

end Sys2Proof.Machine
end

