-- ==== Sys2Proof/Machine/FinalRecords.lean ====
section
/-! DEFINITION. The path of a final strata record (R89): classification (R116, R117), the strata log's comparison (R103), the
offer; records that wait (R90, R91); the release of the job record (R136); and the store controller from the taking of a
head to a departure (R144 to R148). -/

namespace Sys2Proof.Machine

open Sys2Proof

/-! ### Classification and comparison -/

/-- The millimetres of the span from `top` to `bottom` that lie in band `k` (0 to 5): from its lower bound to the next
band's, and without end for the last (R117). -/
def bandPart (bounds : Vector Nat 6) (top bottom k : Nat) : Nat :=
  let lower := (bounds[k]?).getD 0
  let upper := (bounds[k + 1]?).getD bottom
  min bottom upper - max top lower

/-- Credit a span to the cells of one rock class, split at the band bounds (R116, R117). -/
def creditCells (bounds : Vector Nat 6) (top bottom : Nat) (rock : RockClass) (cells : Vector Nat 24) : Vector Nat 24 :=
  (List.range 6).foldl (fun c k => bump c (k * 4 + rock.code) (fun v => v + bandPart bounds top bottom k)) cells

/-- The rock class at which a final record's metres are priced (R116): its own when CAUGHT, else UNKNOWN. -/
def StrataRec.billedRock (r : StrataRec) : RockClass := if r.status = some .caught then r.rock else .unknown

/-- Classify a final record (R116). -/
def State.classify (s : State) (r : StrataRec) : State :=
  s.modJmu (fun u =>
    { u with
      pendingMm := u.pendingMm - (r.bottom - r.top)
      cells := creditCells u.tariff.bounds r.top r.bottom r.billedRock u.cells })

/-- The strata log's handling of a final record (R103). -/
def State.compareStratum (s : State) (r : StrataRec) : State :=
  if r.status = some .caught then
    let s' := match s.slu.lastClass with
      | some c => if c = r.rock then s else s.fire .stratumChange (.interval r.interval)
      | none => s
    s'.modSlu (fun u => { u with lastClass := some r.rock })
  else s

/-! ### The cuttings queue -/

/-- Re-evaluate QUEUE_NEAR_FULL (R80). -/
def State.evalNearFull (s : State) : State :=
  let raw := decide (s.lgu.nearLevel ≤ s.lgu.parcels.length)
  (s.modLgu (fun u => { u with nearRaw := raw })).fireLevel .queueNearFull s.lgu.nearRaw raw

/-- The parcel of an interval. -/
def State.parcel (s : State) (n : Nat) : Option Parcel := s.lgu.parcels.find? (fun p => p.record.interval == n)

/-- Adjust the parcel of an interval. -/
def State.modParcel (s : State) (n : Nat) (f : Parcel → Parcel) : State :=
  s.modLgu (fun u => { u with parcels := u.parcels.map (fun p => if p.record.interval = n then f p else p) })

/-- The parcel of an interval leaves the queue (R77, R80). -/
def State.dropParcel (s : State) (n : Nat) : State :=
  (s.modLgu (fun u => { u with parcels := u.parcels.filter (fun p => p.record.interval != n) })).evalNearFull

/-- Offer an entry to the commit queue. -/
def State.offer (s : State) (b : EntryBody) : State × Offer :=
  let (u, o) := s.rst.offer b
  ({ s with rst := u }, o)

/-- A strata record is dropped: COMMIT_DROPPED fires with its interval number (R89). -/
def State.dropStrata (s : State) (r : StrataRec) : State := s.fire .commitDropped (.droppedInterval r.interval)

/-- A queued parcel's final record after its offer (R89): it leaves, waits, or leaves and is dropped. -/
def State.placeParcel (s : State) (r : StrataRec) : Offer → State
  | .accepted => s.dropParcel r.interval
  | .full => s.modParcel r.interval (fun p => { p with status := .finalWaiting })
  | .failed => (s.dropParcel r.interval).dropStrata r

/-- A final record without a parcel after its offer (R89, R91): it is queued, joins the overflow if there is room, or is
dropped. -/
def State.placeLoose (s : State) (r : StrataRec) : Offer → State
  | .accepted => s
  | .full =>
    if s.slu.overflow.length < 4 then s.modSlu (fun u => { u with overflow := u.overflow ++ [r] }) else s.dropStrata r
  | .failed => s.dropStrata r

/-! ### The round of re-offers (R90) -/

/-- A record that waits: in the overflow, or in a FINAL_WAITING parcel. -/
inductive Waiting where
  | loose (r : StrataRec)
  | parcel (r : StrataRec)
deriving DecidableEq, Repr

/-- The records that wait, in the order of R90: the overflow, then the FINAL_WAITING parcels, each oldest first. -/
def State.waiting (s : State) : List Waiting :=
  s.slu.overflow.map Waiting.loose
    ++ (s.lgu.parcels.filter (fun p => p.status == .finalWaiting)).map (fun p => Waiting.parcel p.record)

/-- The oldest record leaves the overflow. -/
def State.popOverflow (s : State) : State := s.modSlu (fun u => { u with overflow := u.overflow.tail })

/-- Offer the waiting records in turn until one is refused because the queue is full (R90). -/
def reoffer : List Waiting → State → State
  | [], s => s
  | .loose r :: rest, s =>
    match s.offer (.strata r) with
    | (s, .accepted) => reoffer rest s.popOverflow
    | (s, .full) => s
    | (s, .failed) => reoffer rest (s.popOverflow.dropStrata r)
  | .parcel r :: rest, s =>
    match s.offer (.strata r) with
    | (s, .accepted) => reoffer rest (s.placeParcel r .accepted)
    | (s, .full) => s
    | (s, .failed) => reoffer rest (s.placeParcel r .failed)

/-! ### The release of the job record (R136) -/

/-- The job ends: the state becomes NO_JOB and the protect mark absent (R136, R156). The job record stays in the
unit; no request reads it from there: DESIGN CHOICE, entry 47. -/
def State.endJob (s : State) : State :=
  (s.modJmu (fun u => { u with state := .noJob })).modRst (fun u => { u with protect := none })

/-- Is it a strata record of the job? -/
def EntryBody.ofJob (b : EntryBody) (job : Nat) : Bool :=
  match b with
  | .strata r => r.job == job
  | _ => false

/-- Does a strata record of the job stand in the cuttings queue, the overflow or the commit queue? -/
def State.strataWaits (s : State) (job : Nat) : Bool :=
  s.lgu.parcels.any (fun p => p.record.job == job) || s.slu.overflow.any (fun r => r.job == job)
    || s.rst.queue.any (fun e => e.body.ofJob job)

/-- The release check (R136). -/
def State.releaseCheck (s : State) : State :=
  match s.jmu.state, s.jmu.record with
  | .closing .held, some r =>
    if s.strataWaits r.ident.number then s
    else
      match s.offer (.job r) with
      | (s, .accepted) => s.modJmu (fun u => { u with state := .closing .offered })
      | (s, .full) => s
      | (s, .failed) => (s.fire .commitDropped (.droppedJob r.ident.number)).endJob
  | _, _ => s

/-- A departure is handed on: the round of re-offers, then the release check (R146). -/
def State.handOn (s : State) : State := (reoffer s.waiting s).releaseCheck

/-! ### The store controller -/

/-- The firing of a dropped entry, and the end of the job whose record it was (R145, R148). -/
def State.dropEntry (s : State) (b : EntryBody) : State :=
  match b with
  | .strata r => s.dropStrata r
  | .job r => (s.fire .commitDropped (.droppedJob r.ident.number)).endJob
  | .settings _ | .rods _ => s

/-- Does the protect mark forbid the erase of this STRATA block (R145)? -/
def Store.protects (u : Store) (block : Nat) : Bool :=
  match u.protect, u.areas.strata.seq block with
  | some mark, some q => mark ≤ q
  | _, _ => false

/-- Where work on the taken entry begins (R144, R145). -/
inductive Start where
  | write
  | erase (area : AreaId) (block : Nat)
  | blocked
deriving DecidableEq, Repr

/-- The start of work on an entry: write a BLANK target slot, else erase its block first, unless the protect mark forbids
it. An image with failure count 0 is written only into a blank block (R144, R145). -/
def Store.startOf (u : Store) (e : Entry) : Start :=
  match e.body with
  | .strata _ =>
    if (u.areas.strata.get u.strataPos).isNone then .write
    else if u.protects (u.strataPos / 256) then .blocked
    else .erase .strata (u.strataPos / 256)
  | .job _ =>
    if (u.areas.jobs.get u.jobsPos).isNone then .write else .erase .jobs (u.jobsPos / 16)
  | .settings _ =>
    if e.failures = 0 then (if u.areas.settings.isBlank then .write else .erase .settings 0)
    else if (u.areas.settings.get 1).isNone then .write
    else .erase .settings 0
  | .rods _ =>
    if e.failures = 0 then (if u.areas.rods.isBlank then .write else .erase .rods 0)
    else if (u.areas.rods.get 1).isNone then .write
    else .erase .rods 0

/-- Every slot of a block becomes BLANK and its sequence number absent (R145). -/
def Areas.eraseBlock (a : Areas) (area : AreaId) (block : Nat) : Areas :=
  match area with
  | .settings => { a with settings := ⟨none, none⟩ }
  | .rods => { a with rods := ⟨none, none⟩ }
  | .strata => { a with strata := a.strata.erase block }
  | .jobs => { a with jobs := a.jobs.erase block }

/-- The controller works on entry `e` at the head of the queue; true when the head was dropped by protection instead
(R144, R145). -/
def State.work (s : State) (e : Entry) : State × Bool :=
  match s.rst.startOf e with
  | .write => (s.modRst (fun u => { u with ctl := .writing }), false)
  | .erase area block =>
    (s.modRst (fun u =>
      { u with
        areas := u.areas.eraseBlock area block
        ctl := .erasing { area, block, run := 0, since := s.now, suspensions := 0 } }), false)
  | .blocked =>
    let s := s.modRst (fun u => { u with queue := u.queue.tail, ctl := .ready })
    ((s.dropEntry e.body).handOn, true)

/-- The controller in READY takes the head, and after a drop by protection the next one (R144, R145). Each drop takes one
record out for good, so `fuel` is the number of records there are. -/
def takeLoop : Nat → State → State
  | 0, s => s
  | fuel + 1, s =>
    match s.rst.ctl, s.rst.queue with
    | .ready, e :: _ =>
      match s.work e with
      | (s, true) => takeLoop fuel s
      | (s, false) => s
    | _, _ => s

/-- The controller takes the head if it is READY and an entry is queued (R144). -/
def State.takeHead (s : State) : State :=
  takeLoop (s.rst.queue.length + s.slu.overflow.length + s.lgu.parcels.length + 2) s

/-! ### Records becoming final (R89) -/

/-- The record of an interval's parcel becomes final. -/
def State.finishParcel (s : State) (r : StrataRec) : State :=
  let s := s.modParcel r.interval (fun p => { p with record := r })
  let s := (s.classify r).compareStratum r
  match s.offer (.strata r) with
  | (s, o) => (s.placeParcel r o).takeHead

/-- The record of an interval without a parcel becomes final. -/
def State.finishLoose (s : State) (r : StrataRec) : State :=
  let s := (s.classify r).compareStratum r
  match s.offer (.strata r) with
  | (s, o) => (s.placeLoose r o).takeHead

/-- A record made final with no sample: rock class UNKNOWN, lithology code and colour absent (R85, R92). -/
def StrataRec.unsampled (r : StrataRec) (st : SampleStatus) : StrataRec :=
  { r with status := some st, rock := .unknown, lith := none, colour := none }

/-! ### The end of a write (R146 to R148) -/

/-- Write the taken entry's target slot, VOID or with its content, and move a ring's write position past it
(R140, R141, R146, R147). -/
def Store.putTarget (u : Store) (e : Entry) (verified : Bool) : Store :=
  match e.body with
  | .strata r =>
    let x := if verified then Slot.written r 0 else .void
    { u with areas := { u.areas with strata := u.areas.strata.write u.strataPos x }
             strataPos := u.areas.strata.after u.strataPos }
  | .job r =>
    let x := if verified then Slot.written r 0 else .void
    { u with areas := { u.areas with jobs := u.areas.jobs.write u.jobsPos x }
             jobsPos := u.areas.jobs.after u.jobsPos }
  | .settings img =>
    let x := if verified then Slot.written img 0 else .void
    { u with areas := { u.areas with settings := u.areas.settings.put e.failures (some x) } }
  | .rods items =>
    let x := if verified then Slot.written items 0 else .void
    { u with areas := { u.areas with rods := u.areas.rods.put e.failures (some x) } }

/-- In a FAILED store the entries depart as drops, oldest first, each handed on (R148). -/
def failDrops : List Entry → State → State
  | [], s => s
  | e :: es, s => failDrops es ((s.modRst (fun u => { u with queue := es })).dropEntry e.body).handOn

/-- The verify passes: the entry is completed and its departure handed on; the reads that wait are served; the next head
is taken (R146). -/
def State.writePassed (s : State) (e : Entry) : State :=
  let s := s.modRst (fun u => { u.putTarget e true with queue := u.queue.tail, ctl := .ready })
  let s := reoffer s.waiting s
  let s := match e.body with
    | .job _ => s.endJob
    | _ => s.releaseCheck
  s.serveReads.takeHead

/-- The first verify failure of an entry (R147): a VOID slot, then the next target. The reads that wait are served at the
end of the write (R149). -/
def State.writeFailedOnce (s : State) (e : Entry) : State :=
  let e' : Entry := { e with failures := 1 }
  let s := s.modRst (fun u =>
    { u.putTarget e false with queue := e' :: u.queue.tail, voidCount := u.voidCount + 1 })
  match s.serveReads.work e' with
  | (s, true) => s.takeHead
  | (s, false) => s

/-- The second verify failure (R148): the controller is FAILED, every entry departs as a drop, and the reads that wait are
served. -/
def State.writeFailedTwice (s : State) (e : Entry) : State :=
  let s := s.modRst (fun u => { u.putTarget e false with ctl := .failed, voidCount := u.voidCount + 1 })
  let s := s.fireLevel .storeFailed false true
  (failDrops s.rst.queue s).serveReads

/-- The write and verify of the taken entry end (R146). -/
def State.writeEnds (s : State) (verified : Bool) : State :=
  match s.rst.ctl, s.rst.queue with
  | .writing, e :: _ =>
    if verified then s.writePassed e
    else if e.failures = 0 then s.writeFailedOnce e
    else s.writeFailedTwice e
  | _, _ => s

/-- The erase completes (R145): the reads that wait are served and the controller goes to WRITING. A suspension is over by
then (R150): its reads are served first. -/
def State.eraseEnds (s : State) : State :=
  match s.endSuspension.rst.ctl with
  | .erasing _ => s.endSuspension.serveReads.modRst (fun u => { u with ctl := .writing })
  | _ => s

end Sys2Proof.Machine
end

