-- ==== Sys2Proof/Machine/Lag.lean ====
section
/-! DEFINITION. The Lag Unit: the annular volume computation (R64 to R69), targets and the last annulus record (R70 to R73),
the creation of a parcel (R81, R82), and due detection and window expiry at a rise of the lift counter (R83 to R85). -/

namespace Sys2Proof.Machine

open Sys2Proof

/-! ### The annular volume -/

/-- A component of the string laid out in depth (R65). -/
structure Component where
  top : Int
  bottom : Int
  cap : Nat
deriving DecidableEq, Repr

/-- The rods stacked upward from a depth, each with its class's outside capacity (R65). -/
def stackRods (u : StringUnit) (bottom : Int) : List Nat → List Component
  | [] => []
  | id :: rest =>
    let cap := (((findRod u.rods id).bind (fun r => classEntry u.classes r.cls)).map (·.cap)).getD 0
    let top := bottom - rodLen u id
    ⟨top, bottom, cap⟩ :: stackRods u top rest

/-- The string's components as depth ranges, from the bit upward (R65). -/
def layout (u : StringUnit) : List Component :=
  match u.bha with
  | some b => ⟨u.d - b.len, u.d, b.cap⟩ :: stackRods u (u.d - b.len) u.list
  | none => stackRods u u.d u.list

/-- The depths at which the span from 0 to d is cut, with its ends, in rising order (R66). -/
def cutPoints (d : Nat) (sections : List Section) (parts : List Component) : List Nat :=
  let cuts := sections.map (·.bottom) ++ (parts.filter (fun c => 0 < c.top)).map (·.top.toNat)
  (cuts.filter (fun x => 0 < x && x < d)).foldl (fun acc x => insertRising id x acc) [0, d]

/-- The spans between consecutive points. -/
def spans : List Nat → List (Nat × Nat)
  | x :: y :: rest => (x, y) :: spans (y :: rest)
  | _ => []

/-- The segments of the span from 0 to d, shallow to deep (R66). -/
def segments (u : StringUnit) (sections : List Section) : List (Nat × Nat) :=
  if u.d = 0 then [] else spans (cutPoints u.d sections (layout u))

/-- The figures of one computation: `clamps` holds the contents of its GEOMETRY_CLAMP firings in order, and `sum` is in
mL·mm (R67 to R69). -/
structure Annulus where
  segments : Nat
  sum : Nat
  clamped : Nat
  beyond : Option Nat
  clamps : List Nat
deriving DecidableEq, Repr

/-- The outside capacity of the component that holds a segment, 0 in open hole (R65, R67). -/
def componentCap (parts : List Component) (top bottom : Nat) : Nat :=
  ((parts.find? (fun c => decide (c.top ≤ (top : Int)) && decide ((bottom : Int) ≤ c.bottom))).map (·.cap)).getD 0

/-- Add one segment: its hole capacity is its section's, or below the deepest bottom the last section's (R68); a component
wider than the hole clamps the capacity to 0 (R67). -/
def addSegment (sections : List Section) (parts : List Component) (acc : Annulus) (seg : Nat × Nat) : Annulus :=
  let deepest := ((sections.getLast?).map (·.bottom)).getD 0
  let hole : Option Nat := (sections.find? (fun x => seg.1 < x.bottom)).map (·.cap)
  let below := hole.isNone
  let cap := hole.getD (((sections.getLast?).map (·.cap)).getD 0)
  let tool := componentCap parts seg.1 seg.2
  let first := below && acc.beyond.isNone
  { segments := acc.segments + 1
    sum := acc.sum + (cap - tool) * (seg.2 - seg.1)
    clamped := if cap < tool then acc.clamped + 1 else acc.clamped
    beyond := if first then some deepest else acc.beyond
    clamps := acc.clamps ++ (if first then [deepest] else []) ++ (if cap < tool then [seg.1] else []) }

/-- The annular volume computation (R66 to R69). -/
def annulus (u : StringUnit) (sections : List Section) : Annulus :=
  (segments u sections).foldl (addSegment sections (layout u)) ⟨0, 0, 0, none, []⟩

/-- The annular volume A in mL (R69). -/
def Annulus.volume (a : Annulus) : Nat := a.sum / 1000

/-! ### Creation of a parcel -/

/-- The effective target: no less than that of the newest parcel in the queue (R71). -/
def effectiveTarget (parcels : List Parcel) (raw : Nat) : Nat := max raw (((parcels.getLast?).map (·.eff)).getD 0)

/-- Create a parcel for a record under construction (R82, R70, R71, R73). -/
def State.createParcel (s : State) (r : StrataRec) : State :=
  let a := annulus s.str s.lgu.sections
  let raw := s.ccu.lift + a.volume + s.lgu.surface
  let eff := effectiveTarget s.lgu.parcels raw
  let shown : AnnulusRec :=
    { interval := r.interval, d := s.str.d, len := s.str.length, rods := s.str.list.length, segments := a.segments
      volume := a.volume, clamped := a.clamped, beyond := a.beyond, lift := s.ccu.lift, surface := s.lgu.surface
      raw, eff, raised := decide (raw < eff) }
  let s := s.fireEach .geometryClamp (a.clamps.map Content.depth)
  (s.modLgu (fun u =>
    { u with lastAnnulus := some shown, parcels := u.parcels ++ [⟨raw, eff, .inFlight, none, r⟩] })).evalNearFull

/-- The places of the cuttings queue (R77). -/
def queueRoom : Nat := 32

/-- The fate of an interval at its close (R81). -/
def State.parcelFate (s : State) (r : StrataRec) : State :=
  if s.ccu.state = .totalLoss then s.finishLoose (r.unsampled .lostReturns)
  else if queueRoom ≤ s.lgu.parcels.length then
    (s.fire .parcelUntracked (.interval r.interval)).finishLoose (r.unsampled .untracked)
  else s.createParcel r

/-! ### Rises of the lift counter (R84) -/

/-- The parcels whose sample window the counter has reached, oldest first (R84). -/
def State.expiring (s : State) : List StrataRec :=
  (s.lgu.parcels.filter (fun p =>
    p.status == .due && (match p.windowEnd with
      | some w => decide (w ≤ s.ccu.lift)
      | none => false))).map (·.record)

/-- A window expires: the record is final as MISSED (R85). -/
def State.expire (s : State) (r : StrataRec) : State :=
  (s.fire .sampleMissed (.interval r.interval)).finishParcel (r.unsampled .missed)

/-- Expiry, oldest first (R84, stage 1). -/
def State.windowExpiry (s : State) : State := s.expiring.foldl State.expire s

/-- The parcels whose effective target the counter has reached, oldest first (R84). -/
def State.reaching (s : State) : List Nat :=
  (s.lgu.parcels.filter (fun p => p.status == .inFlight && decide (p.eff ≤ s.ccu.lift))).map (·.record.interval)

/-- A parcel becomes DUE: its window end is set and SAMPLE_DUE fires (R83, R84). -/
def State.becomeDue (s : State) (n : Nat) : State :=
  (s.modParcel n (fun p => { p with status := .due, windowEnd := some (p.eff + s.lgu.sampleWindow) })).fire .sampleDue
    (.interval n)

/-- Due detection, oldest first (R84, stage 2); the rise has then been examined. -/
def State.dueDetection (s : State) : State :=
  (s.reaching.foldl State.becomeDue s).modLgu (fun u => { u with rise := false })

/-- The lift counter has risen (R84): expiry, then due detection. -/
def State.liftRose (s : State) : State := s.windowExpiry.dueDetection

end Sys2Proof.Machine
end

