-- ==== Sys2Proof/Machine/Strata.lean ====
section
/-! DEFINITION. The interval grid (R95, R97, R98), the figures of the open interval (R99), the partial interval of Job Close
(R107), and the hand-off of drilled depth (R17, R115). -/

namespace Sys2Proof.Machine

open Sys2Proof

/-- An interval as it opens (R95). -/
def openedAt (number top step : Nat) (circ : CircState) : OpenInterval :=
  { number, top, bottom := top + step, drilled := 0, seconds := 0, worst := circ, strike := none, notes := [] }

/-- The record of an interval closed at `bottom` (R98). -/
def closedRecord (job clock : Nat) (iv : OpenInterval) (bottom : Nat) : StrataRec :=
  { job, interval := iv.number, top := iv.top, bottom, seconds := iv.seconds
    rate := if iv.seconds = 0 then none else some ((bottom - iv.top) * 60 / iv.seconds)
    worst := iv.worst, strike := iv.strike, lith := none, colour := none, rock := .unknown, status := none
    notes := iv.notes, closeTime := clock }

/-- The number of the open or last job. -/
def State.jobNumber (s : State) : Nat := (s.jmu.ident.map (·.number)).getD 0

/-- Close the open interval at its bottom and open the next (R98, R95, R178). For a record final at once, INTERVAL_CLOSED
fires after the whole path of R89: DESIGN CHOICE, entry 46. -/
def State.closeInterval (s : State) (iv : OpenInterval) : State :=
  let r := closedRecord s.jobNumber s.jmu.clock iv iv.bottom
  let s := s.modSlu (fun u => { u with closed := u.closed + 1 })
  let s := (s.parcelFate r).fire .intervalClosed (.interval iv.number)
  s.modSlu (fun u => { u with openIv := some (openedAt (iv.number + 1) iv.bottom u.step s.ccu.state) })

/-- Close every interval whose bottom hole depth `h` has reached, and give each newly opened one its part of the advance
(R97). A step is at least 1 mm, so `fuel` is the depth still to be passed. -/
def closeReached (h : Nat) : Nat → State → State
  | 0, s => s
  | fuel + 1, s =>
    match s.slu.openIv with
    | some iv =>
      if iv.bottom ≤ h then
        let s := s.closeInterval iv
        let s := s.modSlu (fun u =>
          { u with openIv := u.openIv.map (fun v => { v with drilled := v.drilled + (min h v.bottom - v.top) }) })
        closeReached h fuel s
      else s
    | none => s

/-- The Strata Log Unit takes an advance of hole depth (R97). -/
def State.strataAdvance (s : State) (dh h : Nat) : State :=
  match s.jmu.state, s.slu.openIv with
  | .opened, some iv =>
    let part := if iv.bottom ≤ h then iv.bottom - (h - dh) else dh
    let s := s.modSlu (fun u => { u with openIv := some { iv with drilled := iv.drilled + part } })
    closeReached h (h + 1 - iv.bottom) s
  | _, _ => s

/-- The Job Meter Unit takes an advance of hole depth (R115). -/
def State.meterAdvance (s : State) (dh : Nat) : State :=
  s.modJmu (fun u =>
    { u with
      lastAdvance := some s.tick
      pendingMm := match u.state with
        | .noJob => u.pendingMm
        | _ => u.pendingMm + dh })

/-- An advance is reported as drilled depth: to the Job Meter Unit, then to the Strata Log Unit (R17). -/
def State.reportAdvance (s : State) (dh h : Nat) : State := (s.meterAdvance dh).strataAdvance dh h

/-- A second of DRILLING is counted in the open interval (R99). -/
def State.drillingSecond (s : State) : State :=
  s.modSlu (fun u => { u with openIv := u.openIv.map (fun v => { v with seconds := v.seconds + 1 }) })

/-- The worse of two circulation states (R99). -/
def worse (a b : CircState) : CircState := if a.rank < b.rank then b else a

/-- The circulation state changes; the open interval's worst state takes it in (R52, R99). -/
def State.setCirc (s : State) (c : CircState) : State :=
  if s.ccu.state = c then s
  else
    (s.modCcu (fun u => { u with state := c })).modSlu (fun u =>
      { u with openIv := u.openIv.map (fun v => { v with worst := worse v.worst c }) })

/-- The partial interval at Job Close (R107): closed at hole depth if it holds drilled millimetres, else discarded.
Its INTERVAL_CLOSED fires after the whole path of R89: DESIGN CHOICE, entry 46. -/
def State.closePartial (s : State) : State :=
  match s.slu.openIv with
  | some iv =>
    if iv.drilled = 0 then s.modSlu (fun u => { u with openIv := none })
    else
      let r := (closedRecord s.jobNumber s.jmu.clock iv s.str.hole).unsampled .unsampledAtClose
      let s := s.modSlu (fun u => { u with closed := u.closed + 1, openIv := none })
      (s.finishLoose r).fire .intervalClosed (.interval iv.number)
  | none => s

end Sys2Proof.Machine
end

