-- ==== Sys2Proof/Machine/Depth.lean ====
section
/-! DEFINITION. Bit depth and hole depth (R12, R13, R16, R17), depth status (R14), the slips edges (R11), and what the
Connection Unit does at a slips edge and at a stroke (R32 to R35). -/

namespace Sys2Proof.Machine

open Sys2Proof

/-! ### Depths -/

/-- The value d takes for a computed value: that value, or past 1,500,000 mm a free value within R12's range
(entry 13). -/
def State.depthValue (s : State) (c : Nat) : State × Nat :=
  if c ≤ maxDepth then (s, c) else ({ s with free := s.free + 1 }, min maxDepth (Config.depthBeyond s.free))

/-- Hole depth takes d, and the increase is reported as drilled depth (R17). -/
def State.advanceHole (s : State) : State :=
  let dh := s.str.d - s.str.hole
  let h := s.str.d
  (s.modStr (fun u => { u with hole := h })).reportAdvance dh h

/-- The hole depth rule at a change of d (R17). -/
def State.holeRule (s : State) : State :=
  if s.str.slips = .released ∧ s.str.bha.isSome ∧ s.str.depth = .reliable ∧ s.str.hole < s.str.d then s.advanceHole else s

/-- d takes a computed value (R12, R13), without the hole depth rule. -/
def State.takeDepth (s : State) (c : Nat) : State :=
  match s.depthValue c with
  | (s, d) => s.modStr (fun u => { u with d := d })

/-- Block height was `before`; a change of it recomputes d while the slips are RELEASED and depth status is RELIABLE (R10,
R12). -/
def State.afterHeight (s : State) (before : Nat) : State :=
  if s.height = before then s
  else if s.str.slips = .released ∧ s.str.depth = .reliable then (s.takeDepth s.limited).holeRule
  else s

/-- The reference offset rises by a signed length. -/
def State.raiseOffset (s : State) (x : Int) : State := s.modStr (fun u => { u with offset := u.offset + x })

/-! ### Connection states -/

/-- The connection state changes, and with it the raw values of CONNECTION_FAULT and PUMP_PERMIT (R22, R32, R35). -/
def State.setConn (s : State) (c : ConnState) : State :=
  let t := s.modCxu (fun u => { u with state := c })
  let t := t.fireLevel .connectionFault (s.rawValue .connectionFault) (t.rawValue .connectionFault)
  t.fireLevel .pumpPermit s.cxu.state.permit c.permit

/-- Enter FAULT (R35). -/
def State.enterFault (s : State) (cause : ConnCause) (origin : Origin) : State := s.setConn (.fault ⟨cause, origin⟩)

/-- The Connection Unit at a slips RELEASED edge (R33). -/
def State.connReleased (s : State) : State :=
  match s.cxu.state with
  | .addPicked => s.enterFault .slipsLost .addPicked
  | .addStabbed => s.enterFault .slipsLost .addStabbed
  | .breakRequested => s.enterFault .slipsLost .breakRequested
  | .free | .breakOpen | .fault _ => s

/-- The Connection Unit at an accepted stroke of a pump (R34). -/
def State.connStroke (s : State) (p : PumpId) : State :=
  match s.cxu.state with
  | .breakRequested => (s.enterFault (.pumpedOnBreak p) .breakRequested).fire .pumpInterlock (.pump p)
  | .breakOpen => (s.enterFault (.pumpedOnBreak p) .breakOpen).fire .pumpInterlock (.pump p)
  | .fault r => if r.origin.withdrawn then s.fire .pumpInterlock (.pump p) else s
  | .free | .addPicked | .addStabbed => s

/-! ### Slips and encoder -/

/-- A SET edge (R11). -/
def State.slipsSetEdge (s : State) : State :=
  (s.modStr (fun u => { u with slips := .set })).fireLevel .slipsSet (s.rawValue .slipsSet) true

/-- The comparison of R13 at a slips release with depth status RELIABLE: within the tolerance d takes the computed value and
the hole depth rule follows; beyond it the offset takes up the difference and DEPTH_JUMP fires. -/
def State.compareAtRelease (s : State) : State :=
  let diff : Int := s.computed - s.str.d
  if diff.natAbs ≤ s.str.tol then (s.takeDepth s.limited).holeRule
  else (s.raiseOffset diff).fire .depthJump (.jump diff)

/-- A RELEASED edge (R11, R13), then handed to the Connection Unit (R33). In the RELEASED state it changes nothing in the
String Table Unit. -/
def State.slipsReleasedEdge (s : State) : State :=
  let s :=
    if s.str.slips = .set then
      let s := (s.modStr (fun u => { u with slips := .released })).fire .slipsSet (.raw false)
      if s.str.depth = .reliable then s.compareAtRelease else s
    else s
  s.connReleased

/-- The least and the greatest encoder count (R159). -/
def countMin : Int := -2147483648

/-- The greatest encoder count (R159). -/
def countMax : Int := 2147483647

/-- A legal encoder step (R165, R10). -/
def State.legalStep (s : State) (up : Bool) : State :=
  let before := s.height
  let c := s.flu.encoderCount
  let c' := if up then min countMax (c + 1) else max countMin (c - 1)
  (s.modFlu (fun u => { u with encoderCount := c' })).afterHeight before

/-- An illegal encoder step (R165, R14). -/
def State.illegalStep (s : State) : State :=
  let s := s.modFlu (fun u => { u with illegalSteps := heldSum max16 u.illegalSteps 1 })
  (s.modStr (fun u => { u with depth := .faulted })).fireLevel .depthFault (s.rawValue .depthFault) true

/-! ### String changes (R16) -/

/-- A rod is appended at the top: d keeps its value, and with the slips RELEASED the offset rises by the rod's length. -/
def State.appendTop (s : State) (id : Nat) : State :=
  let len := rodLen s.str id
  let s := s.modStr (fun u =>
    { u with
      list := u.list ++ [id]
      rods := modRod u.rods id (fun r => { r with state := .string, runs := heldSum max16 r.runs 1 }) })
  if s.str.slips = .released then s.raiseOffset len else s

/-- The string has been declared afresh (R16): with depth status RELIABLE, d is the computed value; H is the greater of H and
d, and while a job is OPEN or CLOSING its rise is reported as drilled depth. -/
def State.rebase (s : State) : State :=
  let s := if s.str.depth = .reliable then s.takeDepth s.limited else s
  if s.str.hole < s.str.d then
    match s.jmu.state with
    | .noJob => s.modStr (fun u => { u with hole := u.d })
    | _ => s.advanceHole
  else s

/-- A bottom-end change (R16): d rises toward surface by the length lost. -/
def State.bottomLost (s : State) (len : Nat) : State := s.modStr (fun u => { u with d := u.d - len })

end Sys2Proof.Machine
end

