-- ==== Sys2Proof/Machine/Circulation.lean ====
section
/-! DEFINITION. Circulation accounting: an accepted stroke (R44 to R46), pump timeouts (R47), return pulses (R48), window
completions and the state decision (R49 to R53), the stop of circulation (R54), and the one-second tick (R109, R110,
R112). -/

namespace Sys2Proof.Machine

open Sys2Proof

/-! ### Window completion (R50, R53) -/

/-- The returns fraction in per mille, held at 9,999 (R50). -/
def returnsFraction (rw pw : Nat) : Nat := min 9999 (rw * 1000 / pw)

/-- The candidate state of a returns fraction (R50). -/
def candidate (l : CircLimits) (f : Nat) : CircState :=
  if l.gainT ≤ f then .gain
  else if l.fullT ≤ f then .circulating
  else if l.totalT ≤ f then .partialLoss
  else .totalLoss

/-- Is it one of the four states that STARTING leads to? -/
def CircState.judged : CircState → Bool
  | .circulating | .partialLoss | .totalLoss | .gain => true
  | .idle | .starting => false

/-- The state decided at a completion with candidate `c`, by the first case of R53's table that holds. -/
def decideState (state : CircState) (lastCand : Option CircState) (c : CircState) : CircState :=
  if state = .starting then c
  else if c = .totalLoss ∧ state.judged then .totalLoss
  else if c = state then state
  else if lastCand = some c then c
  else state

/-- Stages 1 to 4 of a window completion (R50), with the raw values of R56. Where both raw values change, CIRC_LOSS fires
before CIRC_GAIN: DESIGN CHOICE, entry 52. -/
def State.judgeWindow (s : State) : State :=
  let pw := s.ccu.pw
  let rw := s.ccu.rw
  let f := returnsFraction rw pw
  let c := candidate s.ccu.limits f
  let state := decideState s.ccu.state s.ccu.lastCand c
  let s := s.modCcu (fun u =>
    { u with
      lastFrac := some f
      lost := if f < 1000 then heldSum maxVolume u.lost (pw - rw) else u.lost
      gain := if 1000 < f then heldSum maxVolume u.gain (rw - pw) else u.gain
      lastCand := some c })
  let s := s.setCirc state
  let loss := decide (state = .partialLoss ∨ state = .totalLoss)
  let gain := decide (state = .gain)
  let t := (s.modCcu (fun u => { u with lossRaw := loss })).fireLevel .circLoss s.ccu.lossRaw loss
  (t.modCcu (fun u => { u with gainRaw := gain })).fireLevel .circGain s.ccu.gainRaw gain

/-- The window sums return to 0 (R49). -/
def State.restartWindow (s : State) : State := s.modCcu (fun u => { u with pw := 0, rw := 0 })

/-- The window completes if P_w has reached the W in force (R50). -/
def State.completeWindow (s : State) : State :=
  if s.ccu.windowInForce ≤ s.ccu.pw then s.judgeWindow.restartWindow else s

/-- The completion check of an accepted stroke: a new W applies from here on (R44 stage 5, R49). -/
def State.checkWindow (s : State) : State :=
  (s.modCcu (fun u => { u with windowInForce := u.limits.window })).completeWindow

/-! ### Strokes (R44 to R46) -/

/-- The whole millilitres of a stroke and the remainder it leaves (R45). -/
def strokeVolume (p : Pump) : Nat × Nat :=
  let sum := (p.const.disp.getD 0) * p.const.eff + p.rem
  (sum / 1000, sum % 1000)

/-- The increment handed on: the amount by which the pumped volume rises (R46). -/
def strokeIncrement (p : Pump) : Nat := min (strokeVolume p).1 (maxVolume - p.vol)

/-- A pump after an accepted stroke (R44 stages 1 and 2, R45, R47). -/
def Pump.afterStroke (p : Pump) : Pump :=
  { p with strokes := heldSum max32 p.strokes 1, vol := p.vol + strokeIncrement p, rem := (strokeVolume p).2
           running := true, countdown := p.const.timeout }

/-- Does the state lift cuttings (R52)? -/
def CircState.lifts : CircState → Bool
  | .starting | .circulating | .partialLoss | .gain => true
  | .idle | .totalLoss => false

/-- The lift counter rises by an increment that the state admits, and the rise is handed to the Lag Unit (R44 stage 4, R55,
R84). -/
def State.lift (s : State) (inc : Nat) : State :=
  if s.ccu.state.lifts ∧ 0 < inc then
    ((s.modCcu (fun u => { u with lift := u.lift + inc })).modLgu (fun u => { u with rise := true })).liftRose
  else s

/-- An accepted stroke of a pump in the Circulation Unit (R44). -/
def State.circStroke (s : State) (p : PumpId) : State :=
  let was := s.ccu.anyRunning
  let inc := strokeIncrement (s.ccu.pump p)
  let s := s.modCcu (fun u => u.putPump p (u.pump p).afterStroke)
  let s := s.fireLevel .pumpsRunning was true
  let s := if was = false ∧ s.ccu.state = .idle then s.setCirc .starting else s
  let s := s.modCcu (fun u => { u with pw := u.pw + inc })
  (s.lift inc).checkWindow

/-- An accepted stroke: the Circulation Unit, then the Connection Unit (R44, R34). -/
def State.stroke (s : State) (p : PumpId) : State := (s.circStroke p).connStroke p

/-! ### Return pulses (R48) -/

/-- A return pulse (R48). -/
def State.returnPulse (s : State) : State :=
  s.modCcu (fun u =>
    { u with
      returned := heldSum maxVolume u.returned u.limits.pulse
      rw := if u.state = .idle then u.rw else u.rw + u.limits.pulse })

/-! ### Pump timeouts and the stop of circulation (R47, R54) -/

/-- A pump's countdown at a tick; at 0 the pump stops (R47). -/
def Pump.tick (p : Pump) : Pump :=
  if p.countdown = 0 then p
  else if p.countdown = 1 then { p with countdown := 0, running := false }
  else { p with countdown := p.countdown - 1 }

/-- Circulation stops (R54): a partial window of at least a quarter of the W in force (R49, R51) is judged; the window is discarded; IDLE. -/
def State.stopCirculation (s : State) : State :=
  let s := if s.ccu.windowInForce ≤ s.ccu.pw * 4 then s.judgeWindow else s
  (s.restartWindow.setCirc .idle).modCcu (fun u => { u with lastCand := none })

/-- The pumps changed and `was` tells whether one ran before: PUMPS_RUNNING fires on a change, and when the last pump has
stopped circulation stops (R47, R54). -/
def State.afterPumps (s : State) (was : Bool) : State :=
  let s' := s.fireLevel .pumpsRunning was s.ccu.anyRunning
  if was ∧ s.ccu.anyRunning = false then s'.stopCirculation else s'

/-- The pump countdowns at a tick (R47). -/
def State.pumpTick (s : State) : State :=
  let was := s.ccu.anyRunning
  (s.modCcu (fun u => { u with p1 := u.p1.tick, p2 := u.p2.tick })).afterPumps was

/-- A pump whose countdown stands at 0 while its flag is set stops running (R47; entry 8). -/
def State.pumpStops (s : State) (p : PumpId) : State :=
  let x := s.ccu.pump p
  if x.running ∧ x.countdown = 0 then
    (s.modCcu (fun u => u.putPump p { x with running := false })).afterPumps s.ccu.anyRunning
  else s

/-! ### The tick (R109, R110, R112) -/

/-- Is the present tick count within a hold of the tick count at which something happened? (R110.) -/
def State.within (s : State) (at_ : Option Nat) (hold : Nat) : Bool :=
  match at_ with
  | some t => s.tick - t ≤ hold
  | none => false

/-- The activity of the second that has just ended, by the first test of R110 that holds. -/
def State.activity (s : State) : Activity :=
  match s.jmu.downtime with
  | some ⟨.rig, _⟩ => .downtimeRig
  | some ⟨.client, _⟩ => .downtimeClient
  | none =>
    if s.ccu.state = .totalLoss ∨ s.ccu.state = .gain then .lossControl
    else if s.within s.jmu.lastAdvance s.jmu.drillHold then .drilling
    else if s.cxu.state ≠ .free ∨ s.within (s.cxu.last.map (·.time)) s.jmu.tripHold then .tripping
    else if s.ccu.state ≠ .idle then .circulating
    else .standby

/-- The job clock and the meters at a tick taken while the job is OPEN (R109, R112). -/
def State.meterSecond (s : State) : State :=
  if s.jmu.state = .opened ∧ s.jmu.clock < max32 then
    let a := s.activity
    let s := s.modJmu (fun u =>
      { u with clock := u.clock + 1, meters := bump u.meters a.code (fun v => v + 1), lastActivity := some a })
    if a = .drilling then s.drillingSecond else s
  else s

/-- The tick count rises (R31); past its range it is a free value (entry 14). -/
def State.countTick (s : State) : State :=
  if s.tick < max32 then { s with tick := s.tick + 1 }
  else { s with tick := Config.tickBeyond s.free % 4294967296, free := s.free + 1 }

/-- One tick of the time base: the count, the second that has ended judged on the state as it stood (R110), then the pump
countdowns. The millisecond timing is brought to the whole second (entry 6). -/
def State.timeTick (s : State) : State :=
  let s := s.countTick
  ((s.timeTo (s.tick * 10000)).meterSecond).pumpTick

end Sys2Proof.Machine
end

