-- ==== Sys2Proof/Machine/FieldLines.lean ====
section
/-! DEFINITION. The Field Line Unit's inputs: pin changes and filters (R162), stroke edges and the dead time (R163), return
pulses and slips edges (R164), the block encoder (R165), and a change of a line's function (R161). -/

namespace Sys2Proof.Machine

open Sys2Proof

/-! ### Pins and filters -/

/-- The level at a pin changes: the line's stability time restarts (R162). -/
def State.pinChange (s : State) (i : Fin 12) (high : Bool) : State :=
  if (s.flu.line i).pin = high then s
  else s.modFlu (fun u => u.putLine i { u.line i with pin := high, stableSince := s.now })

/-- A line's filtered level takes the logical level at its pin. -/
def State.takeLevel (s : State) (i : Fin 12) : State :=
  s.modFlu (fun u => u.putLine i { u.line i with filtered := some (u.line i).logical })

/-- The stroke dead time, 150 ms in tenths (R163). -/
def deadTime : Nat := 1500

/-- The time of a pump's last accepted stroke. -/
def FieldUnit.lastStroke (u : FieldUnit) : PumpId → Option Nat
  | .one => u.lastStroke1
  | .two => u.lastStroke2

/-- Is the dead time of a pump still running at a moment? (R163; at 150 ms exactly it has run, entry 7.) -/
def FieldUnit.dead (u : FieldUnit) (p : PumpId) (now : Nat) : Bool :=
  match u.lastStroke p with
  | some t => now - t < deadTime
  | none => false

/-- An ignored edge of a pump is counted (R163). -/
def FieldUnit.ignore (u : FieldUnit) (p : PumpId) : FieldUnit :=
  match p with
  | .one => { u with ignored1 := heldSum max16 u.ignored1 1 }
  | .two => { u with ignored2 := heldSum max16 u.ignored2 1 }

/-- The last stroke time of a pump. -/
def FieldUnit.stamp (u : FieldUnit) (p : PumpId) (now : Nat) : FieldUnit :=
  match p with
  | .one => { u with lastStroke1 := some now }
  | .two => { u with lastStroke2 := some now }

/-- An active edge of a pump: ignored within the dead time, else an accepted stroke (R163). -/
def State.strokeEdge (s : State) (p : PumpId) : State :=
  if s.flu.dead p s.now then s.modFlu (fun u => u.ignore p)
  else (s.modFlu (fun u => u.stamp p s.now)).stroke p

/-- An accepted change of a single line, handed on by its function (R163, R164). -/
def State.acceptedChange (s : State) (fn : LineFn) (active : Bool) : State :=
  match fn with
  | .stroke1 => if active then s.strokeEdge .one else s
  | .stroke2 => if active then s.strokeEdge .two else s
  | .returnFlow => if active then s.returnPulse else s
  | .slips => if active then s.slipsSetEdge else s.slipsReleasedEdge
  | _ => s

/-- A line has settled: on SLIPS, settling to ACTIVE is a SET edge, and nothing else follows from a settling (R162 to
R164). -/
def State.settled (s : State) (fn : LineFn) (active : Bool) : State :=
  if fn = .slips ∧ active then s.slipsSetEdge else s

/-- The filter of a single line expires (R162). -/
def State.lineExpiry (s : State) (i : Fin 12) : State :=
  let r := s.flu.line i
  match r.filtered with
  | none => (s.takeLevel i).settled r.cfg.fn r.logical
  | some f => if f = r.logical then s else (s.takeLevel i).acceptedChange r.cfg.fn r.logical

/-! ### The encoder (R165) -/

/-- Is the step from one pair to another an up step of the sequence 00, 10, 11, 01? (R165.) -/
def upStep : Bool × Bool → Bool × Bool → Bool
  | (false, false), (true, false) => true
  | (true, false), (true, true) => true
  | (true, true), (false, true) => true
  | (false, true), (false, false) => true
  | _, _ => false

/-- The decoder takes a new pair (R165): the first becomes the reference; one channel changed is a legal step; both changed
is an illegal step. -/
def State.encoderPair (s : State) (pair : Bool × Bool) : State :=
  let t := s.modFlu (fun u => { u with encRef := some pair })
  match s.flu.encRef with
  | none => t
  | some old =>
    if old = pair then t
    else if old.1 ≠ pair.1 ∧ old.2 ≠ pair.2 then t.illegalStep
    else t.legalStep (upStep old pair)

/-- The pair of filtered levels, when both channels have settled. -/
def FieldUnit.pair (u : FieldUnit) : Option (Bool × Bool) :=
  match (u.line 4).filtered, (u.line 5).filtered with
  | some a, some b => some (a, b)
  | _, _ => none

/-- Does the line wait for its filter: unsettled, or with a level other than its filtered one? -/
def LineRec.waits (r : LineRec) : Bool := r.filtered != some r.logical

/-- The moment at which a line's filter time has run. -/
def LineRec.deadline (r : LineRec) : Nat := r.stableSince + r.cfg.filter.getD 0

/-- The filter of an encoder channel expires. The other channel's change is taken with it when both are accepted at once
(R165), that is, when both filters run out at the same moment (entry 36). -/
def State.encoderExpiry (s : State) (i : Fin 12) : State :=
  let j : Fin 12 := if i = 4 then 5 else 4
  let ri := s.flu.line i
  let rj := s.flu.line j
  if ri.waits then
    let s := s.takeLevel i
    let s := if rj.waits ∧ rj.deadline = ri.deadline then s.takeLevel j else s
    match s.flu.pair with
    | some pair => s.encoderPair pair
    | none => s
  else s

/-- A line's filter time has run with its level stable (R162): the moment is the line's deadline. A line with an output
function has no filter. -/
def State.filterExpiry (s : State) (i : Fin 12) : State :=
  let r := s.flu.line i
  if r.cfg.fn.isInput then
    let s := s.timeTo r.deadline
    if r.cfg.fn = .encoder then s.encoderExpiry i else s.lineExpiry i
  else s

/-! ### Changing a function (R161) -/

/-- Release a line: GENERAL_IN, filtered level absent (R161, step 1). -/
def LineRec.release (r : LineRec) : LineRec :=
  { r with cfg := { r.cfg with fn := .generalIn }, claimed := false, filtered := none }

/-- A line takes a function: an input begins to settle, GENERAL_OUT starts DEASSERTED (R161, step 3). -/
def LineRec.start (r : LineRec) (cfg : LineCfg) (claimed : Bool) (now : Nat) : LineRec :=
  { r with cfg, claimed, filtered := none, stableSince := now, general := .deasserted }

/-- Steps 1 to 3 of R161. -/
def State.changeFunction (s : State) (i : Fin 12) (cfg : LineCfg) : State :=
  let old := (s.flu.line i).cfg.fn
  -- step 1
  let s := s.modFlu (fun u => u.putLine i (u.line i).release)
  let s :=
    if old = .encoder ∧ cfg.fn ≠ .encoder then
      s.modFlu (fun u => u.putLine 5
        ((u.line 5).start ⟨.generalIn, (u.line 5).cfg.pol, some LineFn.generalIn.defaultFilter⟩ false s.now))
    else if cfg.fn = .encoder then s.modFlu (fun u => u.putLine 5 (u.line 5).release)
    else s
  -- step 2
  let s := if old = .encoder then s.modFlu (fun u => { u with encRef := none }) else s
  let s := if old = .slips ∧ s.str.slips = .set then s.slipsReleasedEdge else s
  -- step 3
  let s := s.modFlu (fun u => u.putLine i ((u.line i).start cfg false s.now))
  if cfg.fn = .encoder then s.modFlu (fun u => u.putLine 5 ((u.line 5).start cfg true s.now)) else s

end Sys2Proof.Machine
end

