-- ==== Sys2Proof/Machine/Taking.lean ====
section
/-! DEFINITION. Request taking (R173): what a complete frame meets before its owner, and the reply it gets. A command has no
effect while the part has no power (entry 10). -/

namespace Sys2Proof.Machine

open Sys2Proof

/-- The outcome of a command with effect `f`: its effect with power on, none without. -/
def whenOn (s : State) (f : State → State) : Host.Outcome State Fault Refusal :=
  .next (if s.power = .on then f s else s)

/-- A reply of status alone on a link. -/
def State.sayOn (s : State) (ln : Link) (kind tag : Nat) (st : Status) : State := s.reply ln ⟨kind, tag, st, [[]]⟩

/-- Make the reply an owner gives, unless the store makes it later (R174). -/
def State.answer (s : State) (ln : Link) (kind tag : Nat) (a : Answer) : State :=
  match a with
  | .reply st parts => s.reply ln ⟨kind, tag, st, parts⟩
  | .deferred => s

/-- Does the lock let the request through? (R173, case 4.) -/
def Kind.passesLock : Kind → Bool
  | .linkStatus | .clearLock => true
  | _ => false

/-- Lock a link for a role violation (R173, case 5). -/
def LinkRec.lockFor (l : LinkRec) (k : Kind) : LinkRec := { l with state := .locked, violation := some k }

/-- A complete frame whose kind names request `k`, its owner being `own`, by the first case of R173 that holds. A frame
completed while the reply list is full is discarded (R171, R174), a Link Reset among them: DESIGN CHOICE, entry 50. -/
def State.takeRequest (s : State) (ln : Link) (tag : Nat) (k : Kind) (lengthOk : Bool) (own : State → State × Answer) :
    State :=
  if s.repliesFull ln then s.discardFrame ln .overrun
  else if k = .linkReset then
    match own s with
    | (t, a) => t.answer ln k.number tag a
  else if s.outstanding ln then s.sayOn ln k.number tag .linkBusy
  else if (s.link ln).state = .locked ∧ k.passesLock = false then s.sayOn ln k.number tag .locked
  else if permits (s.link ln).effective k = false then
    (s.modLink ln (fun l => l.lockFor k)).sayOn ln k.number tag .roleViolation
  else if lengthOk = false then s.sayOn ln k.number tag .badLength
  else
    match own s with
    | (t, a) => t.answer ln k.number tag a

/-- A complete frame whose kind names no request (R173, cases 2 and 3). -/
def State.takeUnknown (s : State) (ln : Link) (tag kind : Nat) : State :=
  if s.repliesFull ln then s.discardFrame ln .overrun
  else if s.outstanding ln then s.sayOn ln kind tag .linkBusy
  else s.sayOn ln kind tag .unknownKind

/-- The outcome of a command that comes over a link: its effect once the start-up load has enabled the receivers (R170),
none before that or without power (entries 3 and 10). -/
def whenReady (s : State) (f : State → State) : Host.Outcome State Fault Refusal :=
  .next (if s.power = .on ∧ s.loaded then f s else s)

/-- A request command: a complete frame of the right length on a link. -/
def request (ln : Link) (tag : Nat) (k : Kind) (own : State → State × Answer) (s : State) :
    Host.Outcome State Fault Refusal :=
  whenReady s (fun s => s.takeRequest ln tag k true own)

/-- The status an offer of an image is answered with (R6, R143). -/
def Offer.status : Offer → Status
  | .accepted => .ok
  | .full => .queueFull
  | .failed => .storeFailed

/-- Offer an image; a READY controller takes it at once (R142, R144). -/
def State.offerImage (s : State) (b : EntryBody) : State × Answer :=
  match s.offer b with
  | (s, o) => say o.status s.takeHead

/-- Set configuration marks; UNCONFIGURED clears at the report that leaves all four set (R155). -/
def State.mark (s : State) (f : Marks → Marks) : State :=
  let m := f s.rst.marks
  let still := s.rst.unconfigured && !(m.pump1 && m.rodClass && m.sections && m.tariffs)
  (s.modRst (fun u => { u with marks := m, unconfigured := still })).fireLevel .unconfigured s.rst.unconfigured still

/-- The job check of requests that need an open job (R101, R102, R113): NO_JOB or CLOSING when it fails. -/
def JobState.notOpen : JobState → Option Status
  | .opened => none
  | .noJob => some .noJob
  | .closing _ => some .closing

end Sys2Proof.Machine
end

