-- ==== Sys2Proof/Machine/RodRequests.lean ====
section
/-! DEFINITION. The rod registry's requests: Set Rod Class (R1), Register Rod (R3), Lay Down Rod and Restore Rod (R4),
Retire Rod (R5), Save Rods (R6). Each `own` is what the unit does with a request the link may make. -/

namespace Sys2Proof.Machine

open Sys2Proof

/-- Is a rod of the class in STRING or HANDLING? (R1.) -/
def classInUse (rods : List Rod) (cls : Nat) : Bool :=
  rods.any (fun r => r.cls == cls && (r.state == .string || r.state == .handling))

/-- Write an entry of the class table. -/
def State.putClass (s : State) (cls : Nat) (c : Option RodClass) : State :=
  s.modStr (fun u => { u with classes := u.classes.setIfInBounds (cls - 1) c })

/-- Set Rod Class (R1). -/
def ownSetRodClass (cls : Nat) (defined : Bool) (thread cap torque : Nat) (s : State) : State × Answer :=
  if inRange 1 4 cls = false then say .badValue s
  else if defined && !inRange 1 15 thread then say .badValue s
  else if classInUse s.str.rods cls then say .wrongState s
  else if defined then
    let c : RodClass := { thread, cap := bringIn 500 60000 cap, torque := bringIn 100 30000 torque }
    say (okOr (c.cap ≠ cap ∨ c.torque ≠ torque)) ((s.putClass cls (some c)).mark (fun m => { m with rodClass := true }))
  else say .ok (s.putClass cls none)

/-- Set Rod Class, on a link. -/
def execSetRodClass (ln : Link) (tag cls : Nat) (defined : Bool) (thread cap torque : Nat) (s : State) :
    Host.Outcome State Fault Refusal :=
  request ln tag .setRodClass (ownSetRodClass cls defined thread cap torque) s

/-- Register Rod (R3). -/
def ownRegisterRod (rod cls len : Nat) (s : State) : State × Answer :=
  if inRange 1 65534 rod = false then say .badValue s
  else if (classEntry s.str.classes cls).isNone then say .badValue s
  else if (findRod s.str.rods rod).isSome then say .duplicate s
  else if 320 ≤ s.str.rods.length then say .tableFull s
  else
    let l := bringIn 1000 12000 len
    let r : Rod := { id := rod, cls, len := l, runs := 0, state := .rack }
    say (okOr (l ≠ len)) (s.modStr (fun u => { u with rods := insertRising (·.id) r u.rods }))

/-- Register Rod, on a link. -/
def execRegisterRod (ln : Link) (tag rod cls len : Nat) (s : State) : Host.Outcome State Fault Refusal :=
  request ln tag .registerRod (ownRegisterRod rod cls len) s

/-- Move a registered rod to another state. -/
def State.moveRod (s : State) (id : Nat) (st : RodState) : State :=
  s.modStr (fun u => { u with rods := setRodState u.rods id st })

/-- Lay Down Rod (R4). -/
def ownLayDownRod (rod : Nat) (s : State) : State × Answer :=
  match findRod s.str.rods rod with
  | none => say .notFound s
  | some r => if r.state = .rack then say .ok (s.moveRod rod .laidDown) else say .notInRack s

/-- Lay Down Rod, on a link. -/
def execLayDownRod (ln : Link) (tag rod : Nat) (s : State) : Host.Outcome State Fault Refusal :=
  request ln tag .layDownRod (ownLayDownRod rod) s

/-- Restore Rod (R4). -/
def ownRestoreRod (rod : Nat) (s : State) : State × Answer :=
  match findRod s.str.rods rod with
  | none => say .notFound s
  | some r => if r.state = .laidDown then say .ok (s.moveRod rod .rack) else say .wrongState s

/-- Restore Rod, on a link. -/
def execRestoreRod (ln : Link) (tag rod : Nat) (s : State) : Host.Outcome State Fault Refusal :=
  request ln tag .restoreRod (ownRestoreRod rod) s

/-- Retire Rod (R5). -/
def ownRetireRod (rod : Nat) (s : State) : State × Answer :=
  match findRod s.str.rods rod with
  | none => say .notFound s
  | some r =>
    if r.state = .laidDown ∨ r.state = .lost then
      say .ok (s.modStr (fun u => { u with rods := u.rods.filter (fun x => x.id != rod) }))
    else say .wrongState s

/-- Retire Rod, on a link. -/
def execRetireRod (ln : Link) (tag rod : Nat) (s : State) : Host.Outcome State Fault Refusal :=
  request ln tag .retireRod (ownRetireRod rod) s

/-- An item of the RODS image (R6). -/
def rodItem (r : Rod) : RodItem :=
  { id := r.id, cls := r.cls, len := r.len, runs := r.runs
    mark := match r.state with
      | .laidDown => some .laidDown
      | .lost => some .lost
      | _ => none }

/-- Save Rods (R6). -/
def ownSaveRods (s : State) : State × Answer := s.offerImage (.rods (s.str.rods.map rodItem))

/-- Save Rods, on a link. -/
def execSaveRods (ln : Link) (tag : Nat) (s : State) : Host.Outcome State Fault Refusal :=
  request ln tag .saveRods ownSaveRods s

end Sys2Proof.Machine
end

