-- ==== Sys2Proof/Machine/StringRequests.lean ====
section
/-! DEFINITION. The string's requests: Set BHA (R7), Set Depth Limits (R9), Set Block Height (R15), Declare String (R18,
R189), Declare Parted (R19, R120), and the string's reads (R20). -/

namespace Sys2Proof.Machine

open Sys2Proof

/-- The BHA record a declaration makes; length 0 makes it absent (R7). -/
def bhaOf (len cap thread : Nat) : Option Bha :=
  if len = 0 then none else some { len := bringIn 1000 60000 len, cap := bringIn 500 120000 cap, thread }

/-- Was a value of the declaration brought in? -/
def bhaClamped (len cap : Nat) : Bool :=
  len ≠ 0 && (bringIn 1000 60000 len ≠ len || bringIn 500 120000 cap ≠ cap)

/-- Set BHA (R7, R16). -/
def ownSetBha (len cap thread : Nat) (s : State) : State × Answer :=
  if s.str.list ≠ [] then say .stringNotEmpty s
  else if s.cxu.state ≠ .free then say .busy s
  else if len ≠ 0 ∧ inRange 1 15 thread = false then say .badValue s
  else say (okOr (bhaClamped len cap)) (s.modStr (fun u => { u with bha := bhaOf len cap thread })).rebase

/-- Set BHA, on a link. -/
def execSetBha (ln : Link) (tag len cap thread : Nat) (s : State) : Host.Outcome State Fault Refusal :=
  request ln tag .setBha (ownSetBha len cap thread) s

/-- Set Depth Limits (R9): block height does not move. -/
def ownSetDepthLimits (cpm tol : Nat) (s : State) : State × Answer :=
  let c := bringIn 200 40000 cpm
  let t := bringIn 100 2000 tol
  let u := s.heightU
  say (okOr (c ≠ cpm ∨ t ≠ tol))
    (s.modStr (fun x => { x with cpm := c, tol := t, offset := u - encoderTerm s.flu.encoderCount c }))

/-- Set Depth Limits, on a link. -/
def execSetDepthLimits (ln : Link) (tag cpm tol : Nat) (s : State) : Host.Outcome State Fault Refusal :=
  request ln tag .setDepthLimits (ownSetDepthLimits cpm tol) s

/-- The four steps of Set Block Height with a height in range (R15). -/
def State.setHeight (s : State) (h : Nat) : State :=
  let s := s.modStr (fun u => { u with offset := h - encoderTerm s.flu.encoderCount u.cpm })
  let s := (s.modStr (fun u => { u with depth := .reliable })).fireLevel .depthFault (s.rawValue .depthFault) false
  let s := s.takeDepth s.limited
  if s.str.bha.isSome ∧ s.str.hole < s.str.d then s.advanceHole else s

/-- Set Block Height (R15). -/
def ownSetBlockHeight (height : Nat) (s : State) : State × Answer :=
  let h := bringIn 0 30000 height
  say (okOr (h ≠ height)) (s.setHeight h)

/-- Set Block Height, on a link. -/
def execSetBlockHeight (ln : Link) (tag height : Nat) (s : State) : Host.Outcome State Fault Refusal :=
  request ln tag .setBlockHeight (ownSetBlockHeight height) s

/-- The ids a list of runs stands for, bottom to top (R189). -/
def expandRuns (runs : List (Nat × Nat)) : List Nat := (runs.map (fun r => List.range' r.1 r.2)).flatten

/-- Are the runs ones a Declare String may carry? At most 80, no count of 0, none past id 65,534, at most 300 rods
(R189). -/
def runsOk (runs : List (Nat × Nat)) : Bool :=
  runs.length ≤ 80 && runs.all (fun r => r.2 != 0 && r.1 + r.2 ≤ 65535) && (runs.map (·.2)).sum ≤ 300

/-- Do the threads match from the BHA up? A rod of an undefined class fails (R18). -/
def threadsMatch (u : StringUnit) (below : Nat) : List Nat → Bool
  | [] => true
  | id :: rest =>
    match rodThread u id with
    | some t => t == below && threadsMatch u t rest
    | none => false

/-- Declare String (R18, R189). -/
def ownDeclareString (len cap thread : Nat) (runs : List (Nat × Nat)) (s : State) : State × Answer :=
  match s.jmu.state with
  | .opened => say .jobOpen s
  | .closing _ => say .closing s
  | .noJob =>
    if s.cxu.state ≠ .free then say .busy s
    else if s.str.list ≠ [] then say .stringNotEmpty s
    else if s.str.depth ≠ .reliable then say .depthUnreliable s
    else if runsOk runs = false then say .badValue s
    else
      let ids := expandRuns runs
      if hasTwice ids ∨ (len ≠ 0 ∧ inRange 1 15 thread = false) then say .badValue s
      else if len = 0 ∧ ids ≠ [] then say .noBha s
      else if (ids.all (fun id => ((findRod s.str.rods id).map (·.state)) == some .rack)) = false then say .notInRack s
      else if threadsMatch s.str thread ids = false then say .threadMismatch s
      else
        say (okOr (bhaClamped len cap))
          (s.modStr (fun u =>
            { u with bha := bhaOf len cap thread, list := ids
                     rods := u.rods.map (fun r => if ids.contains r.id then { r with state := .string } else r) })).rebase

/-- Declare String, on a link. -/
def execDeclareString (ln : Link) (tag len cap thread : Nat) (runs : List (Nat × Nat)) (s : State) :
    Host.Outcome State Fault Refusal :=
  request ln tag .declareString (ownDeclareString len cap thread runs) s

/-- Count lost equipment to an open job (R120): one BHA, and the rods of each class. -/
def State.countLost (s : State) (lost : List Nat) : State :=
  match s.jmu.state with
  | .opened =>
    let n (cls : Nat) : Nat :=
      (lost.filter (fun id => ((findRod s.str.rods id).map (·.cls)) == some cls)).length
    s.modJmu (fun u =>
      { u with
        lostBha := heldSum max16 u.lostBha 1
        lostRods := (List.range 4).foldl (fun v k => bump v k (fun x => heldSum max16 x (n (k + 1)))) u.lostRods })
  | _ => s

/-- Declare Parted (R19). -/
def ownDeclareParted (k : Nat) (s : State) : State × Answer :=
  if s.cxu.state ≠ .free then say .busy s
  else
    match s.str.bha with
    | none => say .noBha s
    | some b =>
      if s.str.list.length < k then say .badValue s
      else
        let lost := s.str.list.take k
        let p := b.len + (lost.map (rodLen s.str)).sum
        let s := s.modStr (fun u =>
          { u with
            list := u.list.drop k
            rods := u.rods.map (fun r => if lost.contains r.id then { r with state := .lost } else r) })
        let s := s.countLost lost
        say .ok ((s.modStr (fun u => { u with bha := none })).bottomLost p)

/-- Declare Parted, on a link. -/
def execDeclareParted (ln : Link) (tag k : Nat) (s : State) : Host.Outcome State Fault Refusal :=
  request ln tag .declareParted (ownDeclareParted k) s

/-! ### Reads (R20) -/

/-- The reply of Read String Status (R20). -/
def stringStatusBytes (s : State) : List Byte :=
  let u := s.str
  presence 1 [u.bha.isSome, u.topThread.isSome] ++ optRec 7 bhaBytes u.bha ++ num 2 u.list.length ++ num 3 u.length
    ++ optNum 1 u.topThread ++ signed4 s.flu.encoderCount ++ signed4 u.offset ++ num 3 s.height ++ num 1 u.slips.code
    ++ num 3 u.d ++ flag u.frozen ++ num 3 u.hole ++ num 1 u.depth.code ++ num 2 u.cpm ++ num 3 u.tol
    ++ num 2 (countRods u.rods .rack) ++ num 2 (countRods u.rods .handling) ++ num 2 (countRods u.rods .string)
    ++ num 2 (countRods u.rods .laidDown) ++ num 2 (countRods u.rods .lost)

/-- Read String Status (R20). -/
def ownReadStringStatus (s : State) : State × Answer := tell (stringStatusBytes s) s

/-- Read String Status, on a link. -/
def execReadStringStatus (ln : Link) (tag : Nat) (s : State) : Host.Outcome State Fault Refusal :=
  request ln tag .readStringStatus ownReadStringStatus s

/-- Read String List (R20). -/
def ownReadStringList (pos : Nat) (s : State) : State × Answer :=
  if inRange 1 300 pos then
    tell (num 2 s.str.list.length ++ listOf 60 2 (((s.str.list.drop (pos - 1)).take 60).map (num 2))) s
  else say .badValue s

/-- Read String List, on a link. -/
def execReadStringList (ln : Link) (tag pos : Nat) (s : State) : Host.Outcome State Fault Refusal :=
  request ln tag .readStringList (ownReadStringList pos) s

/-- Read Rod (R20). -/
def ownReadRod (rod : Nat) (s : State) : State × Answer :=
  if inRange 1 65534 rod then
    match findRod s.str.rods rod with
    | some r => tell (rodBytes r) s
    | none => say .notFound s
  else say .badValue s

/-- Read Rod, on a link. -/
def execReadRod (ln : Link) (tag rod : Nat) (s : State) : Host.Outcome State Fault Refusal :=
  request ln tag .readRod (ownReadRod rod) s

/-- Read Rod Table (R20). -/
def ownReadRodTable (start : Nat) (s : State) : State × Answer :=
  if inRange 1 65534 start then
    tell (listOf 24 9 (((s.str.rods.filter (fun r => start ≤ r.id)).take 24).map rodBytes) ++ num 2 s.str.rods.length) s
  else say .badValue s

/-- Read Rod Table, on a link. -/
def execReadRodTable (ln : Link) (tag start : Nat) (s : State) : Host.Outcome State Fault Refusal :=
  request ln tag .readRodTable (ownReadRodTable start) s

end Sys2Proof.Machine
end

