-- ==== Sys2Proof/Machine/ConnRequests.lean ====
section
/-! DEFINITION. The Connection Unit's requests: the add sequence (R24 to R27), the break sequence (R28 to R30), Acknowledge
Fault (R36 to R38) and Read Connection Status (R41). -/

namespace Sys2Proof.Machine

open Sys2Proof

/-- The rod in handling becomes this. -/
def State.setHandling (s : State) (rod : Option Nat) : State := s.modCxu (fun u => { u with handling := rod })

/-- Write the last completion record, at the present tick count (R31). -/
def State.complete (s : State) (kind : CompletionKind) (rod torque : Option Nat) (resolution : Option Resolution) :
    State :=
  s.modCxu (fun u => { u with last := some { kind, rod, torque, resolution, time := s.tick } })

/-- The rod in handling goes to another state. -/
def State.putHandled (s : State) (st : RodState) : State :=
  match s.cxu.handling with
  | some id => s.moveRod id st
  | none => s

/-- The rod in handling is appended at the top of the string (R26, R37). -/
def State.joinHandled (s : State) : State :=
  match s.cxu.handling with
  | some id => s.appendTop id
  | none => s

/-! ### The add sequence -/

/-- The checks of Pick on a FREE unit, in order (R24). -/
def pickRefusal (rod : Nat) (s : State) : Option Status :=
  if s.str.bha.isNone then some .noBha
  else if s.str.slips ≠ .set then some .slipsOut
  else
    match findRod s.str.rods rod with
    | none => some .notFound
    | some r =>
      if r.state ≠ .rack then some .notInRack
      else if 300 ≤ s.str.list.length then some .stringFull
      else if (rodThread s.str rod).isNone ∨ rodThread s.str rod ≠ s.str.topThread then some .threadMismatch
      else none

/-- Pick (R23, R24). -/
def ownPick (rod : Nat) (s : State) : State × Answer :=
  if s.cxu.state ≠ .free then say .busy s
  else
    match pickRefusal rod s with
    | some st => say st s
    | none => say .ok (((s.moveRod rod .handling).setHandling (some rod)).setConn .addPicked)

/-- Pick, on a link. -/
def execPick (ln : Link) (tag rod : Nat) (s : State) : Host.Outcome State Fault Refusal :=
  request ln tag .pick (ownPick rod) s

/-- Stab (R25). -/
def ownStab (s : State) : State × Answer :=
  if s.cxu.state = .addPicked then say .ok (s.setConn .addStabbed) else say .wrongState s

/-- Stab, on a link. -/
def execStab (ln : Link) (tag : Nat) (s : State) : Host.Outcome State Fault Refusal :=
  request ln tag .stab ownStab s

/-- The minimum make-up torque of the class of the rod in handling (R26). -/
def State.minTorque (s : State) : Nat :=
  ((((s.cxu.handling.bind (findRod s.str.rods)).bind (fun r => classEntry s.str.classes r.cls)).map (·.torque))).getD 0

/-- Made Up (R26). -/
def ownMadeUp (torque : Nat) (s : State) : State × Answer :=
  if s.cxu.state ≠ .addStabbed then say .wrongState s
  else if torque < s.minTorque then say .torqueLow s
  else
    let t := (s.joinHandled.setHandling none).setConn .free
    say .ok (t.complete .madeUp s.cxu.handling (some torque) none)

/-- Made Up, on a link. -/
def execMadeUp (ln : Link) (tag torque : Nat) (s : State) : Host.Outcome State Fault Refusal :=
  request ln tag .madeUp (ownMadeUp torque) s

/-- Abort Add (R27). -/
def ownAbortAdd (s : State) : State × Answer :=
  if s.cxu.state = .addPicked ∨ s.cxu.state = .addStabbed then
    say .ok (((s.putHandled .rack).setHandling none).setConn .free)
  else say .wrongState s

/-- Abort Add, on a link. -/
def execAbortAdd (ln : Link) (tag : Nat) (s : State) : Host.Outcome State Fault Refusal :=
  request ln tag .abortAdd ownAbortAdd s

/-! ### The break sequence -/

/-- Break (R23, R28). -/
def ownBreakOut (s : State) : State × Answer :=
  if s.cxu.state ≠ .free then say .busy s
  else if s.str.slips ≠ .set then say .slipsOut s
  else if s.str.list = [] then say .wrongState s
  else if s.ccu.state ≠ .idle then say .pumpsOn s
  else say .ok (s.setConn .breakRequested)

/-- Break, on a link. -/
def execBreakOut (ln : Link) (tag : Nat) (s : State) : Host.Outcome State Fault Refusal :=
  request ln tag .breakOut ownBreakOut s

/-- The top rod leaves the string list and comes into HANDLING (R29): the slips are SET, so d keeps its value (R16). -/
def State.takeTop (s : State) : State :=
  match s.str.list.getLast? with
  | some id =>
    (s.modStr (fun u => { u with list := u.list.dropLast, rods := setRodState u.rods id .handling })).setHandling (some id)
  | none => s

/-- Broken (R29). -/
def ownBroken (s : State) : State × Answer :=
  if s.cxu.state ≠ .breakRequested then say .wrongState s
  else if s.str.slips = .released then say .slipsOut s
  else say .ok (s.takeTop.setConn .breakOpen)

/-- Broken, on a link. -/
def execBroken (ln : Link) (tag : Nat) (s : State) : Host.Outcome State Fault Refusal :=
  request ln tag .broken ownBroken s

/-- The end of a break (R30): the rod goes to its place and a completion is written. -/
def State.putAway (s : State) (st : RodState) (kind : CompletionKind) : State :=
  (((s.putHandled st).setHandling none).setConn .free).complete kind s.cxu.handling none none

/-- Racked (R30). -/
def ownRacked (s : State) : State × Answer :=
  if s.cxu.state = .breakOpen then say .ok (s.putAway .rack .racked) else say .wrongState s

/-- Racked, on a link. -/
def execRacked (ln : Link) (tag : Nat) (s : State) : Host.Outcome State Fault Refusal :=
  request ln tag .racked ownRacked s

/-- Laid Down (R30). -/
def ownLaidDown (s : State) : State × Answer :=
  if s.cxu.state = .breakOpen then say .ok (s.putAway .laidDown .laidDown) else say .wrongState s

/-- Laid Down, on a link. -/
def execLaidDown (ln : Link) (tag : Nat) (s : State) : Host.Outcome State Fault Refusal :=
  request ln tag .laidDown ownLaidDown s

/-! ### Resolving a fault -/

/-- The resolutions a fault's origin allows (R36). -/
def Origin.allows (o : Origin) (r : Resolution) : Bool :=
  match o, r with
  | .addPicked, .keep | .addPicked, .ret | .addPicked, .layDown => true
  | .addStabbed, .keep | .addStabbed, .ret | .addStabbed, .layDown => true
  | .breakRequested, .restore => true
  | .breakOpen, .ret | .breakOpen, .layDown => true
  | _, _ => false

/-- What a resolution does to the rod (R37, R38). -/
def State.resolveRod (s : State) : Resolution → State
  | .keep => s.joinHandled
  | .ret => s.putHandled .rack
  | .layDown => s.putHandled .laidDown
  | .restore => s

/-- Acknowledge Fault (R36). -/
def ownAcknowledgeFault (resolution : Nat) (s : State) : State × Answer :=
  match s.cxu.state with
  | .fault f =>
    match Resolution.ofCode resolution with
    | some r =>
      if f.origin.allows r then
        let t := ((s.resolveRod r).setHandling none).setConn .free
        say .ok (t.complete .resolved s.cxu.handling none (some r))
      else say .badValue s
    | none => say .badValue s
  | _ => say .wrongState s

/-- Acknowledge Fault, on a link. -/
def execAcknowledgeFault (ln : Link) (tag resolution : Nat) (s : State) : Host.Outcome State Fault Refusal :=
  request ln tag .acknowledgeFault (ownAcknowledgeFault resolution) s

/-! ### The read (R41) -/

/-- The rod in handling: id, class, measured length and runs (R41). -/
def handledBytes (u : StringUnit) (id : Nat) : List Byte :=
  match findRod u.rods id with
  | some r => num 2 r.id ++ num 1 r.cls ++ num 3 r.len ++ num 2 r.runs
  | none => num 2 id ++ zeros 6

/-- The pump of a fault cause. -/
def ConnCause.pump : ConnCause → Option PumpId
  | .slipsLost => none
  | .pumpedOnBreak p => some p

/-- The fault record, its pump number optional (R22, R41). -/
def faultBytes (f : FaultRec) : List Byte :=
  presence 1 [f.cause.pump.isSome] ++ num 1 f.cause.code ++ num 1 f.origin.code
    ++ optNum 1 (f.cause.pump.map PumpId.number)

/-- The fault record of a connection state; absent outside FAULT (R22). -/
def ConnState.faultRec : ConnState → Option FaultRec
  | .fault f => some f
  | _ => none

/-- A completion record, its optional fields rod, torque and resolution (R31, R41). -/
def completionBytes (c : Completion) : List Byte :=
  presence 1 [c.rod.isSome, c.torque.isSome, c.resolution.isSome] ++ num 1 c.kind.code ++ optNum 2 c.rod
    ++ optNum 2 c.torque ++ optNum 1 (c.resolution.map Resolution.code) ++ num 4 c.time

/-- The reply of Read Connection Status (R41). -/
def connectionBytes (s : State) : List Byte :=
  let fault := s.cxu.state.faultRec
  presence 1 [s.cxu.handling.isSome, fault.isSome, s.cxu.last.isSome] ++ num 1 s.cxu.state.code
    ++ optRec 8 (handledBytes s.str) s.cxu.handling ++ optRec 4 faultBytes fault
    ++ num 1 (if s.cxu.state.permit then 0 else 1) ++ optRec 11 completionBytes s.cxu.last ++ num 4 s.tick

/-- Read Connection Status (R41). -/
def ownReadConnectionStatus (s : State) : State × Answer := tell (connectionBytes s) s

/-- Read Connection Status, on a link. -/
def execReadConnectionStatus (ln : Link) (tag : Nat) (s : State) : Host.Outcome State Fault Refusal :=
  request ln tag .readConnectionStatus ownReadConnectionStatus s

end Sys2Proof.Machine
end

