-- ==== Sys2Proof/Machine/CircRequests.lean ====
section
/-! DEFINITION. The Circulation Unit's requests: Set Pump (R43), Set Circulation Limits (R51), Read Circulation Status
(R60), and what Job Open and Job Close do to the unit (R57, R58). -/

namespace Sys2Proof.Machine

open Sys2Proof

/-- The pump a number names (R43). -/
def PumpId.ofNumber : Nat → Option PumpId
  | 1 => some .one
  | 2 => some .two
  | _ => none

/-- The constants a Set Pump leaves (R43). -/
def pumpConstOf (disp eff timeout : Nat) : PumpConst :=
  { disp := some (bringIn 100 60000 disp), eff := bringIn 500 1000 eff, timeout := bringIn 2 30 timeout }

/-- Set Pump (R43): the strokes, volumes, remainder and countdown stay as they are. -/
def ownSetPump (pump disp eff timeout : Nat) (s : State) : State × Answer :=
  match PumpId.ofNumber pump with
  | none => say .badValue s
  | some p =>
    let c := pumpConstOf disp eff timeout
    let s := s.modCcu (fun u => u.putPump p { u.pump p with const := c })
    let s := if p = .one then s.mark (fun m => { m with pump1 := true }) else s
    say (okOr (c.disp ≠ some disp ∨ c.eff ≠ eff ∨ c.timeout ≠ timeout)) s

/-- Set Pump, on a link. -/
def execSetPump (ln : Link) (tag pump disp eff timeout : Nat) (s : State) : Host.Outcome State Fault Refusal :=
  request ln tag .setPump (ownSetPump pump disp eff timeout) s

/-- The five values of Set Circulation Limits, each brought in (R51). -/
def limitsOf (gainT fullT totalT window pulse : Nat) : CircLimits :=
  { gainT := bringIn 1050 2000 gainT, fullT := bringIn 200 1000 fullT, totalT := bringIn 50 900 totalT
    window := bringIn 50000 5000000 window, pulse := bringIn 10 10000 pulse }

/-- Set Circulation Limits (R51). -/
def ownSetCirculationLimits (gainT fullT totalT window pulse : Nat) (s : State) : State × Answer :=
  let l := limitsOf gainT fullT totalT window pulse
  if l.fullT < l.gainT ∧ l.totalT < l.fullT then
    say (okOr (l ≠ ⟨gainT, fullT, totalT, window, pulse⟩)) (s.modCcu (fun u => { u with limits := l }))
  else say .badValue s

/-- Set Circulation Limits, on a link. -/
def execSetCirculationLimits (ln : Link) (tag gainT fullT totalT window pulse : Nat) (s : State) :
    Host.Outcome State Fault Refusal :=
  request ln tag .setCirculationLimits (ownSetCirculationLimits gainT fullT totalT window pulse) s

/-- One pump in the reply of Read Circulation Status (R60). -/
def pumpBytes (p : Pump) : List Byte :=
  pumpConstBytes p.const ++ num 4 p.strokes ++ num 5 p.vol ++ num 2 p.rem ++ flag p.running ++ num 4 p.countdown

/-- The reply of Read Circulation Status (R60). -/
def circulationBytes (s : State) : List Byte :=
  let u := s.ccu
  presence 1 [u.lastCand.isSome, u.lastFrac.isSome, u.close.isSome] ++ pumpBytes u.p1 ++ pumpBytes u.p2
    ++ num 5 u.returned ++ num 1 u.state.code ++ optNum 1 (u.lastCand.map CircState.code) ++ num 3 u.limits.window
    ++ num 5 u.pw ++ num 5 u.rw ++ optNum 2 u.lastFrac ++ num 6 u.lift ++ num 5 u.lost ++ num 5 u.gain
    ++ num 2 u.limits.gainT ++ num 2 u.limits.fullT ++ num 2 u.limits.totalT ++ num 5 u.limits.pulse
    ++ flag u.anyRunning ++ flag u.lossRaw ++ flag u.gainRaw ++ optRec 33 figuresBytes u.close

/-- Read Circulation Status (R60). -/
def ownReadCirculationStatus (s : State) : State × Answer := tell (circulationBytes s) s

/-- Read Circulation Status, on a link. -/
def execReadCirculationStatus (ln : Link) (tag : Nat) (s : State) : Host.Outcome State Fault Refusal :=
  request ln tag .readCirculationStatus ownReadCirculationStatus s

/-- A pump at Job Open (R57): its counts return to 0; constants, running flag and countdown stay. -/
def Pump.restart (p : Pump) : Pump := { p with strokes := 0, vol := 0, rem := 0 }

/-- The Circulation Unit at Job Open (R57). -/
def CircUnit.openJob (u : CircUnit) : CircUnit :=
  { u with p1 := u.p1.restart, p2 := u.p2.restart, returned := 0, lift := 0, lost := 0, gain := 0, pw := 0, rw := 0
           lastCand := none, lastFrac := none, close := none }

/-- The job figures as they stand (R58). -/
def CircUnit.figures (u : CircUnit) : CloseFigures :=
  { strokes1 := u.p1.strokes, vol1 := u.p1.vol, strokes2 := u.p2.strokes, vol2 := u.p2.vol, returned := u.returned
    lost := u.lost, gain := u.gain }

end Sys2Proof.Machine
end

