-- ==== Sys2Proof/Machine/LagRequests.lean ====
section
/-! DEFINITION. The Lag Unit's requests: Set Hole Sections (R62), Read Lag Geometry (R74), Set Sample Window (R79), Log
Sample (R86, R87) and Read Cuttings Queue (R93). -/

namespace Sys2Proof.Machine

open Sys2Proof

/-- Set Hole Sections (R62). -/
def ownSetHoleSections (sections : List (Nat × Nat)) (surface : Nat) (s : State) : State × Answer :=
  if inRange 1 8 sections.length = false then say .badValue s
  else if (sections.all (fun x => inRange 1 maxDepth x.1)) = false then say .badValue s
  else if strictlyRising (sections.map (·.1)) = false then say .badValue s
  else
    let table := sections.map (fun x => (⟨x.1, bringIn 1000 400000 x.2⟩ : Section))
    let line := bringIn 0 2000000 surface
    let s := s.modLgu (fun u => { u with sections := table, surface := line })
    say (okOr (table.map (·.cap) ≠ sections.map (·.2) ∨ line ≠ surface)) (s.mark (fun m => { m with sections := true }))

/-- Set Hole Sections, on a link. -/
def execSetHoleSections (ln : Link) (tag : Nat) (sections : List (Nat × Nat)) (surface : Nat) (s : State) :
    Host.Outcome State Fault Refusal :=
  request ln tag .setHoleSections (ownSetHoleSections sections surface) s

/-- The last annulus record, its beyond depth optional (R73). -/
def annulusBytes (a : AnnulusRec) : List Byte :=
  presence 1 [a.beyond.isSome] ++ num 2 a.interval ++ num 3 a.d ++ num 3 a.len ++ num 2 a.rods ++ num 2 a.segments
    ++ num 4 a.volume ++ num 2 a.clamped ++ optNum 3 a.beyond ++ num 6 a.lift ++ num 3 a.surface ++ num 6 a.raw
    ++ num 6 a.eff ++ flag a.raised

/-- The reply of Read Lag Geometry (R74). -/
def lagBytes (s : State) : List Byte :=
  presence 1 [s.lgu.lastAnnulus.isSome] ++ sectionsBytes s.lgu.sections s.lgu.surface
    ++ optRec 44 annulusBytes s.lgu.lastAnnulus

/-- Read Lag Geometry (R74). -/
def ownReadLagGeometry (s : State) : State × Answer := tell (lagBytes s) s

/-- Read Lag Geometry, on a link. -/
def execReadLagGeometry (ln : Link) (tag : Nat) (s : State) : Host.Outcome State Fault Refusal :=
  request ln tag .readLagGeometry ownReadLagGeometry s

/-- Set Sample Window (R79, R80). -/
def ownSetSampleWindow (volume level : Nat) (s : State) : State × Answer :=
  let v := bringIn 20000 2000000 volume
  let n := bringIn 8 32 level
  say (okOr (v ≠ volume ∨ n ≠ level)) (s.modLgu (fun u => { u with sampleWindow := v, nearLevel := n })).evalNearFull

/-- Set Sample Window, on a link. -/
def execSetSampleWindow (ln : Link) (tag volume level : Nat) (s : State) : Host.Outcome State Fault Refusal :=
  request ln tag .setSampleWindow (ownSetSampleWindow volume level) s

/-- The class the lithology table gives a code (R100). -/
def StrataUnit.classOf (u : StrataUnit) (code : Nat) : Option RockClass :=
  (u.lith.find? (fun e => e.code == code)).map (·.cls)

/-- Has the interval been drilled in the present job? (R86, third check.) -/
def State.drilledInterval (s : State) (n : Nat) : Bool :=
  s.jmu.state ≠ .noJob &&
  match s.slu.openIv with
  | some iv => n ≤ iv.number
  | none => n < s.slu.closed

/-- Is it the open interval? -/
def State.isOpenInterval (s : State) (n : Nat) : Bool := (s.slu.openIv.map (·.number)) == some n

/-- The record of a parcel that a catch completes (R87). -/
def StrataRec.caught (r : StrataRec) (code : Nat) (rock : RockClass) (colour : Option Nat) (notes : List Nat) :
    StrataRec :=
  { r with status := some .caught, lith := some code, rock, colour, notes := r.notes ++ notes }

/-- Log Sample (R86, R87). -/
def ownLogSample (interval code : Nat) (colour : Option Nat) (notes : List Nat) (s : State) : State × Answer :=
  if (colour.all (fun c => c ≤ 15) && notes.length ≤ 3 && notes.all (inRange 1 255)) = false then say .badValue s
  else
    match (if inRange 1 63 code then s.slu.classOf code else none) with
    | none => say .badValue s
    | some rock =>
      if s.drilledInterval interval = false then say .notFound s
      else if s.isOpenInterval interval then say .notDue s
      else
        match s.parcel interval with
        | none => say .tooLate s
        | some p =>
          match p.status with
          | .finalWaiting => say .tooLate s
          | .inFlight => say .notDue s
          | .due =>
            if 3 < p.record.notes.length + notes.length then say .tableFull s
            else say .ok (s.finishParcel (p.record.caught code rock colour notes))

/-- Log Sample, on a link. -/
def execLogSample (ln : Link) (tag interval code : Nat) (colour : Option Nat) (notes : List Nat) (s : State) :
    Host.Outcome State Fault Refusal :=
  request ln tag .logSample (ownLogSample interval code colour notes) s

/-- The reply of Read Cuttings Queue from a position on (R93, R190). -/
def cuttingsBytes (pos : Nat) (s : State) : List Byte :=
  num 1 s.lgu.parcels.length ++ num 1 s.lgu.nearLevel ++ num 3 s.lgu.sampleWindow ++ num 6 s.ccu.lift
    ++ num 1 s.slu.overflow.length ++ listOf 8 23 (((s.lgu.parcels.drop (pos - 1)).take 8).map parcelBytes)

/-- Read Cuttings Queue (R93). -/
def ownReadCuttingsQueue (pos : Nat) (s : State) : State × Answer :=
  if inRange 1 32 pos then tell (cuttingsBytes pos s) s else say .badValue s

/-- Read Cuttings Queue, on a link. -/
def execReadCuttingsQueue (ln : Link) (tag pos : Nat) (s : State) : Host.Outcome State Fault Refusal :=
  request ln tag .readCuttingsQueue (ownReadCuttingsQueue pos) s

end Sys2Proof.Machine
end

