-- ==== Sys2Proof/Machine/StrataRequests.lean ====
section
/-! DEFINITION. The Strata Log Unit's requests: Set Interval Step (R96), Set Lithology Table (R100), Report Water Strike
(R101), Add Note (R102), Read Strata Status and Read Lithology Table (R105), Read Strata and Read Strata Latest (R106). -/

namespace Sys2Proof.Machine

open Sys2Proof

/-- The step setting a carried step gives (R96). -/
def stepOf (step : Nat) : Nat := bringIn 250 5000 step / 50 * 50

/-- Set Interval Step (R96). -/
def ownSetIntervalStep (step : Nat) (s : State) : State × Answer :=
  say (okOr (stepOf step ≠ step)) (s.modSlu (fun u => { u with step := stepOf step }))

/-- Set Interval Step, on a link. -/
def execSetIntervalStep (ln : Link) (tag step : Nat) (s : State) : Host.Outcome State Fault Refusal :=
  request ln tag .setIntervalStep (ownSetIntervalStep step) s

/-- The table entry a pair of code and class stands for (R100). -/
def lithEntry (x : Nat × Nat) : Option LithEntry :=
  if inRange 1 63 x.1 then (RockClass.ofTableCode x.2).map (fun c => ⟨x.1, c⟩) else none

/-- Is a parcel of the queue DUE? -/
def LagUnit.anyDue (u : LagUnit) : Bool := u.parcels.any (fun p => p.status == .due)

/-- Set Lithology Table (R100): the table is held in ascending code order. -/
def ownSetLithologyTable (entries : List (Nat × Nat)) (s : State) : State × Answer :=
  let table := entries.filterMap lithEntry
  if 63 < entries.length ∨ table.length ≠ entries.length then say .badValue s
  else if hasTwice (entries.map (·.1)) then say .badValue s
  else if s.lgu.anyDue then say .busy s
  else say .ok (s.modSlu (fun u => { u with lith := table.foldl (fun acc e => insertRising (·.code) e acc) [] }))

/-- Set Lithology Table, on a link. -/
def execSetLithologyTable (ln : Link) (tag : Nat) (entries : List (Nat × Nat)) (s : State) :
    Host.Outcome State Fault Refusal :=
  request ln tag .setLithologyTable (ownSetLithologyTable entries) s

/-- Is the parcel's record still under construction? (R78.) -/
def Parcel.building (p : Parcel) : Bool := p.status != .finalWaiting

/-- Does a span hold a depth? (R101.) -/
def holds (top bottom depth : Nat) : Bool := top ≤ depth && depth < bottom

/-- The shallower of a report and the strike already there (R101). -/
def shallower (old : Option Nat) (depth : Nat) : Option Nat := some (min depth (old.getD depth))

/-- Write a water strike depth into a record under construction. -/
def StrataRec.strikeAt (r : StrataRec) (depth : Nat) : StrataRec := { r with strike := shallower r.strike depth }

/-- The record a water strike is written into: the open interval's, or that of a parcel still under construction; none
when the interval holding the depth is final (R101). -/
def State.writeStrike (s : State) (depth : Nat) : Option State :=
  match s.slu.openIv.filter (fun iv => holds iv.top iv.bottom depth) with
  | some iv => some (s.modSlu (fun u => { u with openIv := some { iv with strike := shallower iv.strike depth } }))
  | none =>
    match s.lgu.parcels.find? (fun p => p.building && holds p.record.top p.record.bottom depth) with
    | some p => some (s.modParcel p.record.interval (fun p => { p with record := p.record.strikeAt depth }))
    | none => none

/-- Report Water Strike (R101). -/
def ownReportWaterStrike (depth : Nat) (s : State) : State × Answer :=
  match s.jmu.state.notOpen with
  | some st => say st s
  | none =>
    if s.str.hole < depth then say .badValue s
    else if depth < s.slu.anchor.getD 0 then say .notFound s
    else
      match s.writeStrike depth with
      | some t => say .ok (t.fire .waterStrike (.depth depth))
      | none => say .tooLate s

/-- Report Water Strike, on a link. -/
def execReportWaterStrike (ln : Link) (tag depth : Nat) (s : State) : Host.Outcome State Fault Refusal :=
  request ln tag .reportWaterStrike (ownReportWaterStrike depth) s

/-- Append a note to a list that holds fewer than 3 (R102). -/
def addNote (notes : List Nat) (note : Nat) : Option (List Nat) := if notes.length < 3 then some (notes ++ [note]) else none

/-- Add Note (R102). -/
def ownAddNote (interval note : Nat) (s : State) : State × Answer :=
  if inRange 1 255 note = false then say .badValue s
  else
    match s.jmu.state.notOpen with
    | some st => say st s
    | none =>
      match s.slu.openIv with
      | none => say .notFound s
      | some iv =>
        if iv.number < interval then say .notFound s
        else if interval = iv.number then
          match addNote iv.notes note with
          | some l => say .ok (s.modSlu (fun u => { u with openIv := some { iv with notes := l } }))
          | none => say .tableFull s
        else
          match (s.parcel interval).filter Parcel.building with
          | some p =>
            match addNote p.record.notes note with
            | some l => say .ok (s.modParcel interval (fun p => { p with record := { p.record with notes := l } }))
            | none => say .tableFull s
          | none => say .tooLate s

/-- Add Note, on a link. -/
def execAddNote (ln : Link) (tag interval note : Nat) (s : State) : Host.Outcome State Fault Refusal :=
  request ln tag .addNote (ownAddNote interval note) s

/-- The open interval in the reply of Read Strata Status, its strike depth optional (R105). -/
def openIntervalBytes (iv : OpenInterval) : List Byte :=
  presence 1 [iv.strike.isSome] ++ num 2 iv.number ++ num 3 iv.top ++ num 3 iv.bottom ++ num 3 iv.drilled
    ++ num 4 iv.seconds ++ num 1 iv.worst.code ++ optNum 3 iv.strike ++ listOf 3 1 (iv.notes.map (num 1))

/-- The reply of Read Strata Status (R105). -/
def strataStatusBytes (s : State) : List Byte :=
  let u := s.slu
  let job := s.jmu.ident.map (·.number)
  presence 1 [job.isSome, u.anchor.isSome, u.openIv.isSome, u.lastClass.isSome] ++ num 1 s.jmu.state.code ++ optNum 2 job
    ++ optNum 3 u.anchor ++ num 3 u.step ++ num 2 u.closed ++ optRec 24 openIntervalBytes u.openIv
    ++ optNum 1 (u.lastClass.map RockClass.code) ++ num 1 u.overflow.length ++ num 1 u.lith.length

/-- Read Strata Status (R105). -/
def ownReadStrataStatus (s : State) : State × Answer := tell (strataStatusBytes s) s

/-- Read Strata Status, on a link. -/
def execReadStrataStatus (ln : Link) (tag : Nat) (s : State) : Host.Outcome State Fault Refusal :=
  request ln tag .readStrataStatus ownReadStrataStatus s

/-- Read Lithology Table (R105). -/
def ownReadLithologyTable (s : State) : State × Answer := tell (lithBytes s.slu.lith) s

/-- Read Lithology Table, on a link. -/
def execReadLithologyTable (ln : Link) (tag : Nat) (s : State) : Host.Outcome State Fault Refusal :=
  request ln tag .readLithologyTable ownReadLithologyTable s

/-- Read Strata (R106, R152). -/
def ownReadStrata (ln : Link) (tag index : Nat) (s : State) : State × Answer :=
  if index < 8192 then takeRead ln tag (.strata index) s else say .badValue s

/-- Read Strata, on a link. -/
def execReadStrata (ln : Link) (tag index : Nat) (s : State) : Host.Outcome State Fault Refusal :=
  request ln tag .readStrata (ownReadStrata ln tag index) s

/-- Read Strata Latest (R106, R152). -/
def ownReadStrataLatest (ln : Link) (tag job : Nat) (s : State) : State × Answer :=
  if inRange 1 65535 job then takeRead ln tag (.latest job) s else say .badValue s

/-- Read Strata Latest, on a link. -/
def execReadStrataLatest (ln : Link) (tag job : Nat) (s : State) : Host.Outcome State Fault Refusal :=
  request ln tag .readStrataLatest (ownReadStrataLatest ln tag job) s

end Sys2Proof.Machine
end

