-- ==== Sys2Proof/Machine/JobRequests.lean ====
section
/-! DEFINITION. The Job Meter Unit's requests: downtime (R113, R114), Mix Report (R118), Read Job Meters (R122), Set Tariffs
(R126), statements (R127 to R130, R189), Job Open (R132, R133, R156), Job Close (R134, R135) and Read Tariffs (R139). -/

namespace Sys2Proof.Machine

open Sys2Proof

/-! ### Downtime and consumables -/

/-- Downtime Start (R113). -/
def ownDowntimeStart (kind : Nat) (s : State) : State × Answer :=
  match DownKind.ofCode kind with
  | none => say .badValue s
  | some k =>
    match s.jmu.state.notOpen with
    | some st => say st s
    | none =>
      let d : Downtime := { kind := k, start := ((s.jmu.downtime).map (·.start)).getD s.jmu.clock }
      say .ok (s.modJmu (fun u => { u with downtime := some d }))

/-- Downtime Start, on a link. -/
def execDowntimeStart (ln : Link) (tag kind : Nat) (s : State) : Host.Outcome State Fault Refusal :=
  request ln tag .downtimeStart (ownDowntimeStart kind) s

/-- Downtime End (R114). -/
def ownDowntimeEnd (s : State) : State × Answer :=
  match s.jmu.downtime with
  | none => say .wrongState s
  | some _ => say .ok (s.modJmu (fun u => { u with downtime := none }))

/-- Downtime End, on a link. -/
def execDowntimeEnd (ln : Link) (tag : Nat) (s : State) : Host.Outcome State Fault Refusal :=
  request ln tag .downtimeEnd ownDowntimeEnd s

/-- The sack totals after a report's entries (R118). -/
def addSacks (entries : List (Nat × Nat)) (sacks : Vector Nat 8) : Vector Nat 8 :=
  entries.foldl (fun v e => bump v (e.1 - 1) (fun x => heldSum max32 x (bringIn 1 500 e.2))) sacks

/-- Mix Report (R118). -/
def ownMixReport (litres : Nat) (entries : List (Nat × Nat)) (s : State) : State × Answer :=
  if (entries.length ≤ 8 && entries.all (fun e => inRange 1 8 e.1)) = false then say .badValue s
  else if s.jmu.state ≠ .opened then say .noJob s
  else
    let v := bringIn 1 100000 litres
    let clamped := decide (v ≠ litres) || entries.any (fun e => bringIn 1 500 e.2 != e.2)
    say (okOr clamped) (s.modJmu (fun u =>
      { u with mud := heldSum maxVolume u.mud (v * 1000), sacks := addSacks entries u.sacks }))

/-- Mix Report, on a link. -/
def execMixReport (ln : Link) (tag litres : Nat) (entries : List (Nat × Nat)) (s : State) :
    Host.Outcome State Fault Refusal :=
  request ln tag .mixReport (ownMixReport litres entries) s

/-! ### Reading the meters -/

/-- The lost circulation volume reported (R119). -/
def State.lostVolume (s : State) : Nat :=
  match s.jmu.state with
  | .opened => s.ccu.lost
  | _ => (s.ccu.close.map (·.lost)).getD 0

/-- The phase of the job record while CLOSING (R131). -/
def JobState.phase : JobState → Option Phase
  | .closing p => some p
  | _ => none

/-- The reply of Read Job Meters (R122). -/
def jobMeterBytes (s : State) : List Byte :=
  let u := s.jmu
  presence 1 [u.ident.isSome, u.ident.isSome, u.state.phase.isSome, u.lastActivity.isSome, u.downtime.isSome,
      u.lastAdvance.isSome]
    ++ num 1 u.state.code ++ optNum 2 (u.ident.map (·.number)) ++ optNum 4 (u.ident.map (·.client))
    ++ optNum 1 (u.state.phase.map Phase.code) ++ num 4 u.clock ++ num 4 s.tick
    ++ optNum 1 (u.lastActivity.map Activity.code) ++ optRec 5 (fun d => num 1 d.kind.code ++ num 4 d.start) u.downtime
    ++ num 4 u.drillHold ++ num 4 u.tripHold ++ optNum 4 u.lastAdvance ++ tableBytes 4 u.meters ++ num 3 u.pendingMm
    ++ tableBytes 3 u.cells ++ tableBytes 3 u.tariff.bounds ++ num 5 u.mud ++ tableBytes 4 u.sacks ++ num 5 s.lostVolume
    ++ num 2 u.lostBha ++ tableBytes 2 u.lostRods

/-- Read Job Meters (R122). -/
def ownReadJobMeters (s : State) : State × Answer := tell (jobMeterBytes s) s

/-- Read Job Meters, on a link. -/
def execReadJobMeters (ln : Link) (tag : Nat) (s : State) : Host.Outcome State Fault Refusal :=
  request ln tag .readJobMeters ownReadJobMeters s

/-! ### Tariffs -/

/-- Apply a function to every entry of a table. -/
def mapTable {n : Nat} (f : Nat → Nat) (v : Vector Nat n) : Vector Nat n := ⟨(v.toList.map f).toArray, by simp⟩

/-- The greatest price, rate or charge (R125). -/
def maxPrice : Nat := 1000000

/-- A tariff table with its prices, rates and charges brought in (R126). -/
def Tariff.broughtIn (t : Tariff) : Tariff :=
  { bounds := t.bounds, metre := mapTable (min maxPrice) t.metre, hourly := mapTable (min maxPrice) t.hourly
    mud := min maxPrice t.mud, lostVolume := min maxPrice t.lostVolume
    additive := mapTable (min maxPrice) t.additive, lostRod := mapTable (min maxPrice) t.lostRod
    lostBha := min maxPrice t.lostBha, mobilisation := min maxPrice t.mobilisation }

/-- Set Tariffs (R126). -/
def ownSetTariffs (table : Tariff) (drillHold tripHold : Nat) (s : State) : State × Answer :=
  match s.jmu.state with
  | .closing _ => say .closing s
  | _ =>
    if table.bounds[0] ≠ 0 then say .badValue s
    else if (table.bounds.toList.all (fun b => b ≤ maxDepth)) = false then say .badValue s
    else if strictlyRising table.bounds.toList = false then say .badValue s
    else
      let t := table.broughtIn
      let dh := bringIn 30 900 drillHold
      let th := bringIn 60 1800 tripHold
      say (okOr (t ≠ table ∨ dh ≠ drillHold ∨ th ≠ tripHold))
        ((s.modJmu (fun u => { u with tariff := t, drillHold := dh, tripHold := th })).mark
          (fun m => { m with tariffs := true }))

/-- Set Tariffs, on a link. -/
def execSetTariffs (ln : Link) (tag : Nat) (table : Tariff) (drillHold tripHold : Nat) (s : State) :
    Host.Outcome State Fault Refusal :=
  request ln tag .setTariffs (ownSetTariffs table drillHold tripHold) s

/-- Read Tariffs (R139). -/
def ownReadTariffs (s : State) : State × Answer := tell (tariffBytes s.jmu.tariff s.jmu.drillHold s.jmu.tripHold) s

/-- Read Tariffs, on a link. -/
def execReadTariffs (ln : Link) (tag : Nat) (s : State) : Host.Outcome State Fault Refusal :=
  request ln tag .readTariffs ownReadTariffs s

/-! ### Statements -/

/-- A line with the amount its formula gives, held at the maximum (R128). -/
def lineOf (qty price amount : Nat) : StmtLine :=
  { qty, price, amount := min max32 amount, sat := decide (max32 < amount) }

/-- A metre cell line (R128). -/
def metreLine (qp : Nat × Nat) : StmtLine := lineOf qp.1 qp.2 ((qp.1 * qp.2 + 500) / 1000)

/-- An activity line (R128). -/
def activityLine (qp : Nat × Nat) : StmtLine := lineOf qp.1 qp.2 ((qp.1 * qp.2 + 1800) / 3600)

/-- A line of a volume in mL priced per m³ (R128). -/
def volumeLine (qty price : Nat) : StmtLine := lineOf qty price ((qty * price + 500000) / 1000000)

/-- A counted line (R128). -/
def countLine (qp : Nat × Nat) : StmtLine := lineOf qp.1 qp.2 (qp.1 * qp.2)

/-- The 47 lines of a statement (R127). -/
def State.lines (s : State) : List StmtLine :=
  let u := s.jmu
  let t := u.tariff
  (u.cells.toList.zip t.metre.toList).map metreLine ++ (u.meters.toList.zip t.hourly.toList).map activityLine
    ++ [volumeLine u.mud t.mud, volumeLine s.lostVolume t.lostVolume]
    ++ (u.sacks.toList.zip t.additive.toList).map countLine ++ (u.lostRods.toList.zip t.lostRod.toList).map countLine
    ++ [countLine (u.lostBha, t.lostBha), countLine (1, t.mobilisation)]

/-- The saturating sum of line amounts (R129). -/
def totalOf (lines : List StmtLine) : Nat := lines.foldl (fun acc l => heldSum max32 acc l.amount) 0

/-- Compose a statement from the quantities and the table as they stand (R127 to R130); a total that reaches its maximum
counts as held (entry 45). -/
def State.compose (s : State) (provisional : Bool) : Statement :=
  let lines := s.lines
  let total := totalOf lines
  { provisional
    ident := s.jmu.ident.getD ⟨0, 0, 0⟩
    clock := s.jmu.clock
    hole := s.str.hole
    pendingMm := if provisional then s.jmu.pendingMm else 0
    lines
    total
    saturated := lines.any (·.sat) || total == max32 }

/-- A line in a reply: quantity, price, amount (R189). -/
def lineBytes (w : Nat) (l : StmtLine) : List Byte := num w l.qty ++ num 3 l.price ++ num 4 l.amount

/-- The lines from one place up to another, with quantities of `w` bytes. -/
def linesBytes (lines : List StmtLine) (start stop w : Nat) : List Byte :=
  (((lines.drop start).take (stop - start)).map (lineBytes w)).flatten

/-- The three parts of a Statement reply, after their status (R189). -/
def statementParts (x : Statement) : List (List Byte) :=
  [num 1 1 ++ num 1 3 ++ flag x.provisional ++ num 2 x.ident.number ++ num 4 x.ident.client ++ num 3 x.ident.start
      ++ num 4 x.clock ++ num 3 x.hole ++ num 3 x.pendingMm ++ linesBytes x.lines 0 12 3,
   num 1 2 ++ num 1 3 ++ linesBytes x.lines 12 24 3 ++ linesBytes x.lines 24 31 4,
   num 1 3 ++ num 1 3 ++ linesBytes x.lines 31 33 5 ++ linesBytes x.lines 33 41 4 ++ linesBytes x.lines 41 46 2
      ++ linesBytes x.lines 46 47 1 ++ markBytes (x.lines.map (·.sat)) ++ num 4 x.total ++ flag x.saturated]

/-- The statement a Statement request is answered with, if there is one (R130). -/
def State.statementNow (s : State) : Option Statement :=
  match s.jmu.state with
  | .opened => some (s.compose true)
  | _ => s.jmu.finalStmt

/-- Statement (R130). -/
def ownStatement (s : State) : State × Answer :=
  match s.statementNow with
  | some x => (s, .reply .ok (statementParts x))
  | none => say .noJob s

/-- Statement, on a link. -/
def execStatement (ln : Link) (tag : Nat) (s : State) : Host.Outcome State Fault Refusal :=
  request ln tag .statement ownStatement s

/-! ### Job Open -/

/-- The Job Meter Unit at Job Open (R123, R133). -/
def JobUnit.openJob (u : JobUnit) (ident : JobIdent) : JobUnit :=
  { u with
    state := .opened, ident := some ident, finalStmt := none, record := none, clock := 0, meters := Vector.replicate 7 0
    pendingMm := 0, cells := Vector.replicate 24 0, mud := 0, sacks := Vector.replicate 8 0, lostBha := 0
    lostRods := Vector.replicate 4 0, downtime := none, lastActivity := none }

/-- The cuttings queue is emptied and the last annulus record made absent (R73, R94). -/
def State.emptyQueue (s : State) : State :=
  (s.modLgu (fun u => { u with parcels := [], lastAnnulus := none, nearRaw := false })).fireLevel .queueNearFull
    s.lgu.nearRaw false

/-- The protect mark an accepted Job Open sets (R156). -/
def Store.markNow (u : Store) : Nat :=
  match u.areas.strata.get u.strataPos, u.areas.strata.seq (u.strataPos / 256) with
  | none, some q => q
  | _, _ => u.areas.strata.greatest + 1

/-- The seven steps of an accepted Job Open (R133), and the protect mark (R156). -/
def State.openJob (s : State) (ident : JobIdent) : State :=
  let s := s.modStr (fun u => { u with hole := ident.start })
  let s := s.modCcu CircUnit.openJob
  let s := s.emptyQueue
  let s := s.modSlu (fun u =>
    { u with anchor := some ident.start, closed := 0, overflow := [], lastClass := none
             openIv := some (openedAt 0 ident.start u.step s.ccu.state) })
  let s := s.modJmu (fun u => u.openJob ident)
  s.modRst (fun u => { u with protect := some u.markNow })

/-- Job Open (R132). -/
def ownJobOpen (job client start : Nat) (s : State) : State × Answer :=
  match s.jmu.state with
  | .opened => say .jobOpen s
  | .closing _ => say .closing s
  | .noJob =>
    if inRange 1 65535 job = false ∨ maxDepth < start then say .badValue s
    else if s.rst.unconfigured then say .unconfigured s
    else if start < s.str.d then say .belowBit s
    else say .ok (s.openJob ⟨job, client, start⟩)

/-- Job Open, on a link. -/
def execJobOpen (ln : Link) (tag job client start : Nat) (s : State) : Host.Outcome State Fault Refusal :=
  request ln tag .jobOpen (ownJobOpen job client start) s

/-! ### Job Close -/

/-- The records of the parcels still under construction, oldest first (R92). -/
def State.unfinished (s : State) : List StrataRec :=
  (s.lgu.parcels.filter (fun p => p.status != .finalWaiting)).map (·.record)

/-- Steps 1 and 2 of Job Close (R134, R92, R107). -/
def State.closeRecords (s : State) : State :=
  let s := s.closePartial
  s.unfinished.foldl (fun s r => s.finishParcel (r.unsampled .unsampledAtClose)) s

/-- Compose the job record from the final statement and the quantities (R135). -/
def State.jobRecord (s : State) (x : Statement) (figures : CloseFigures) : JobRecord :=
  { ident := x.ident, hole := s.str.hole, clock := s.jmu.clock, meters := s.jmu.meters, cells := s.jmu.cells
    bounds := s.jmu.tariff.bounds, mud := s.jmu.mud, sacks := s.jmu.sacks, lostVolume := figures.lost
    lostBha := s.jmu.lostBha, lostRods := s.jmu.lostRods, figures
    amounts := x.lines.map (fun l => (l.amount, l.sat)), total := x.total, saturated := x.saturated
    intervals := s.slu.closed }

/-- The eight steps of Job Close (R134). -/
def State.closeJob (s : State) : State :=
  let s := s.closeRecords
  let figures := s.ccu.figures
  let s := s.modCcu (fun u => { u with close := some figures })
  let s := s.modJmu (fun u => { u with downtime := none })
  let x := s.compose false
  let s := s.modJmu (fun u =>
    { u with finalStmt := some x, record := some (s.jobRecord x figures), state := .closing .held })
  s.releaseCheck.takeHead

/-- Job Close (R134). -/
def ownJobClose (s : State) : State × Answer :=
  match s.jmu.state with
  | .noJob => say .noJob s
  | .closing _ => say .closing s
  | .opened => say .ok s.closeJob

/-- Job Close, on a link. -/
def execJobClose (ln : Link) (tag : Nat) (s : State) : Host.Outcome State Fault Refusal :=
  request ln tag .jobClose ownJobClose s

end Sys2Proof.Machine
end

