-- ==== Sys2Proof/Machine/StoreRequests.lean ====
section
/-! DEFINITION. The Record Store's requests: Save Settings (R143), Read Job, Read Settings Image and Read Rods Image (R152),
Read Store Status (R157). -/

namespace Sys2Proof.Machine

open Sys2Proof

/-- The live settings as they stand (R143). -/
def State.settings (s : State) : Settings :=
  { classes := s.str.classes, cpm := s.str.cpm, tol := s.str.tol
    pump1 := s.ccu.p1.const, pump2 := s.ccu.p2.const, limits := s.ccu.limits
    sections := s.lgu.sections, surface := s.lgu.surface
    sampleWindow := s.lgu.sampleWindow, nearLevel := s.lgu.nearLevel, step := s.slu.step
    lith := s.slu.lith
    tariff := s.jmu.tariff, drillHold := s.jmu.drillHold, tripHold := s.jmu.tripHold
    lines := ⟨(s.flu.lines.toList.map (·.cfg)).toArray, by simp⟩ }

/-- Save Settings (R143). -/
def ownSaveSettings (s : State) : State × Answer :=
  if s.rst.unconfigured then say .unconfigured s else s.offerImage (.settings s.settings)

/-- Save Settings, on a link. -/
def execSaveSettings (ln : Link) (tag : Nat) (s : State) : Host.Outcome State Fault Refusal :=
  request ln tag .saveSettings ownSaveSettings s

/-- Read Job (R152, R189). -/
def ownReadJob (ln : Link) (tag index part : Nat) (s : State) : State × Answer :=
  if index < 64 && inRange 1 3 part then takeRead ln tag (.job index part) s else say .badValue s

/-- Read Job, on a link. -/
def execReadJob (ln : Link) (tag index part : Nat) (s : State) : Host.Outcome State Fault Refusal :=
  request ln tag .readJob (ownReadJob ln tag index part) s

/-- Read Settings Image (R152). -/
def ownReadSettingsImage (ln : Link) (tag part : Nat) (s : State) : State × Answer :=
  if inRange 1 9 part then takeRead ln tag (.settings part) s else say .badValue s

/-- Read Settings Image, on a link. -/
def execReadSettingsImage (ln : Link) (tag part : Nat) (s : State) : Host.Outcome State Fault Refusal :=
  request ln tag .readSettingsImage (ownReadSettingsImage ln tag part) s

/-- Read Rods Image (R152). -/
def ownReadRodsImage (ln : Link) (tag start : Nat) (s : State) : State × Answer :=
  if inRange 1 320 start then takeRead ln tag (.rods start) s else say .badValue s

/-- Read Rods Image, on a link. -/
def execReadRodsImage (ln : Link) (tag start : Nat) (s : State) : Host.Outcome State Fault Refusal :=
  request ln tag .readRodsImage (ownReadRodsImage ln tag start) s

/-! ### Read Store Status (R157) -/

/-- The interval or job number of an entry, where it has one. -/
def EntryBody.number : EntryBody → Option Nat
  | .strata r => some r.interval
  | .job r => some r.ident.number
  | .settings _ | .rods _ => none

/-- An entry in the reply, its number optional; `taken` tells whether it is the taken entry. -/
def entryBytes (taken : Bool) (e : Entry) : List Byte :=
  presence 1 [e.body.number.isSome] ++ num 1 e.body.code ++ num 1 e.failures ++ flag taken ++ optNum 2 e.body.number

/-- The entries of the queue, the head being the taken one while the controller works. -/
def queueBytes (ctl : Ctl) : List Entry → List (List Byte)
  | [] => []
  | e :: es => entryBytes ctl.working e :: es.map (entryBytes false)

/-- The erase in progress, if there is one. -/
def Ctl.erase : Ctl → Option Erase
  | .erasing e | .suspended e => some e
  | _ => none

/-- The erasing time run, in whole milliseconds. -/
def Ctl.eraseMs (c : Ctl) (now : Nat) : Nat :=
  match c with
  | .erasing e => e.ran now / 10
  | .suspended e => e.run / 10
  | _ => 0

/-- The newest block sequence number of a ring. -/
def Ring.newest {blocks per : Nat} {α : Type} (r : Ring blocks per α) : Option Nat :=
  if r.greatest = 0 then none else some r.greatest

/-- The reply of Read Store Status (R157). One presence bit stands for the erasing time and the suspensions of an
erase: DESIGN CHOICE, entry 48. -/
def storeStatusBytes (s : State) : List Byte :=
  let u := s.rst
  presence 1 [u.ctl.erase.isSome, u.areas.strata.newest.isSome, u.areas.jobs.newest.isSome, u.protect.isSome]
    ++ num 1 u.ctl.code ++ listOf 12 6 (queueBytes u.ctl u.queue)
    ++ num 2 (u.ctl.eraseMs s.now) ++ num 1 ((u.ctl.erase.map (·.suspensions)).getD 0)
    ++ num 2 u.strataPos ++ optNum 4 u.areas.strata.newest ++ num 2 u.jobsPos ++ optNum 4 u.areas.jobs.newest
    ++ optNum 4 u.protect ++ num 4 u.voidCount ++ num 1 u.loadSettings.code ++ num 1 u.loadRods.code
    ++ flag u.marks.pump1 ++ flag u.marks.rodClass ++ flag u.marks.sections ++ flag u.marks.tariffs
    ++ flag u.unconfigured ++ flag u.ctl.isFailed

/-- Read Store Status (R157). -/
def ownReadStoreStatus (s : State) : State × Answer := tell (storeStatusBytes s) s

/-- Read Store Status, on a link. -/
def execReadStoreStatus (ln : Link) (tag : Nat) (s : State) : Host.Outcome State Fault Refusal :=
  request ln tag .readStoreStatus ownReadStoreStatus s

end Sys2Proof.Machine
end

