-- ==== Sys2Proof/Machine/LineRequests.lean ====
section
/-! DEFINITION. The Field Line Unit's requests: Set Line Function (R160, R161), Drive General Output (R166), Read Line
Status (R168). -/

namespace Sys2Proof.Machine

open Sys2Proof

/-- The filter time an input function takes: its default for 0, else the carried value brought in to 0.5 to 20.0 ms
(R160). -/
def filterOf (fn : LineFn) (filter : Nat) : Nat := if filter = 0 then fn.defaultFilter else bringIn 5 200 filter

/-- Does another line hold the function? FL5 while claimed holds ENCODER with FL4 and is not counted (R160, R169;
entry 22). -/
def FieldUnit.heldElsewhere (u : FieldUnit) (fn : LineFn) (i : Fin 12) : Bool :=
  (List.finRange 12).any (fun j => j != i && (u.line j).cfg.fn == fn && !(u.line j).claimed)

/-- Set Line Function (R160). -/
def ownSetLineFunction (line function polarity filter : Nat) (s : State) : State × Answer :=
  if h : line < 12 then
    let i : Fin 12 := ⟨line, h⟩
    match LineFn.ofCode function, Polarity.ofCode polarity with
    | some fn, some pol =>
      if fn.allowedOn i = false then say .badValue s
      else if i = 5 ∧ (s.flu.line 5).claimed then say .wrongState s
      else if fn.unique && s.flu.heldElsewhere fn i then say .duplicate s
      else
        let clamped := fn.isInput && filter != 0 && filterOf fn filter != filter
        let cfg : LineCfg := { fn, pol, filter := if fn.isInput then some (filterOf fn filter) else none }
        say (okOr clamped) (s.changeFunction i cfg)
    | _, _ => say .badValue s
  else say .badValue s

/-- Set Line Function, on a link. -/
def execSetLineFunction (ln : Link) (tag line function polarity filter : Nat) (s : State) :
    Host.Outcome State Fault Refusal :=
  request ln tag .setLineFunction (ownSetLineFunction line function polarity filter) s

/-- Drive General Output (R166). -/
def ownDriveGeneralOutput (line level : Nat) (s : State) : State × Answer :=
  if h : line < 12 then
    match OutLevel.ofCode level with
    | some l =>
      if (s.flu.line ⟨line, h⟩).cfg.fn = .generalOut then
        say .ok (s.modFlu (fun u => u.putLine ⟨line, h⟩ { u.line ⟨line, h⟩ with general := l }))
      else say .wrongState s
    | none => say .badValue s
  else say .badValue s

/-- Drive General Output, on a link. -/
def execDriveGeneralOutput (ln : Link) (tag line level : Nat) (s : State) : Host.Outcome State Fault Refusal :=
  request ln tag .driveGeneralOutput (ownDriveGeneralOutput line level) s

/-- The level of a line in the reply: the filtered level of an input, absent while it settles, or the output level
(R168). -/
def State.lineLevel (s : State) (r : LineRec) : Option Nat :=
  if r.cfg.fn.isInput then r.filtered.map (fun b => if b then 0 else 1) else (s.outputLevel r).map OutLevel.code

/-- A line in the reply, its filter time and level optional (R168). -/
def lineStatusBytes (s : State) (r : LineRec) : List Byte :=
  presence 1 [r.cfg.filter.isSome, (s.lineLevel r).isSome] ++ num 1 r.cfg.fn.code ++ num 1 r.cfg.pol.code
    ++ optNum 1 r.cfg.filter ++ flag r.claimed ++ optNum 1 (s.lineLevel r)

/-- The reply of Read Line Status (R168). -/
def linesStatusBytes (s : State) : List Byte :=
  (s.flu.lines.toList.map (lineStatusBytes s)).flatten ++ signed4 s.flu.encoderCount ++ num 2 s.flu.illegalSteps
    ++ flag s.flu.lastStroke1.isSome ++ num 2 s.flu.ignored1 ++ flag s.flu.lastStroke2.isSome ++ num 2 s.flu.ignored2
    ++ num 1 s.str.slips.code

/-- Read Line Status (R168). -/
def ownReadLineStatus (s : State) : State × Answer := tell (linesStatusBytes s) s

/-- Read Line Status, on a link. -/
def execReadLineStatus (ln : Link) (tag : Nat) (s : State) : Host.Outcome State Fault Refusal :=
  request ln tag .readLineStatus ownReadLineStatus s

end Sys2Proof.Machine
end

