-- ==== Sys2Proof/Machine/LinkRequests.lean ====
section
/-! DEFINITION. The Link Interface Unit's own requests: Link Reset (R176), Link Status (R177), Clear Lock (R173), Set Notice
Masks (R181), Clear Notices (R182). Each acts on its own link. -/

namespace Sys2Proof.Machine

open Sys2Proof

/-! ### Link Reset -/

/-- Steps 2 to 5 of Link Reset on the link's record (R176). -/
def LinkRec.reset (l : LinkRec) : LinkRec :=
  { l with
    notices := [], latches := Vector.replicate 23 none, owed := false, masks := Vector.replicate 23 true
    latchWhileMasked := false, state := .active }

/-- Link Reset (R176): the link's pending read leaves the store's read list without a reply (R149). -/
def ownLinkReset (ln : Link) (s : State) : State × Answer := say .ok ((s.dropRead ln).modLink ln LinkRec.reset)

/-- Link Reset, on a link. -/
def execLinkReset (ln : Link) (tag : Nat) (s : State) : Host.Outcome State Fault Refusal :=
  request ln tag .linkReset (ownLinkReset ln) s

/-! ### Link Status -/

/-- What a set latch holds: its content and its job seconds (R177, R179). -/
def latchBytes (x : Latch) : List Byte := x.content.bytes ++ num 4 x.seconds

/-- One condition in the reply: its latch, 0 clear and 1 set, with what a set latch holds, and its mask, 0 masked and 1
unmasked (R177, R179, R186). -/
def condBytes (l : LinkRec) (c : Cond) : List Byte :=
  num 1 (if (l.latch c).isSome then 1 else 0) ++ optRec (c.contentWidth + 4) latchBytes (l.latch c)
    ++ num 1 (if l.masked c then 0 else 1)

/-- The reply of Link Status (R177), laid out by entry 26 (DEDUCED). Its yes-or-no fields and the latch-while-masked option are 1 for yes or on:
DESIGN CHOICE, entry 51. -/
def linkStatusBytes (ln : Link) (s : State) : List Byte :=
  let l := s.link ln
  presence 3 (l.violation.isSome :: Cond.all.map (fun c => (l.latch c).isSome)) ++ num 1 ln.code
    ++ num 1 l.strapped.code ++ num 1 l.effective.code ++ num 1 s.liu.a.effective.code ++ num 1 s.liu.b.effective.code
    ++ num 1 s.liu.c.effective.code ++ num 1 s.liu.d.effective.code ++ num 1 s.liu.speed.code ++ num 1 l.state.code
    ++ optNum 1 (l.violation.map Kind.number) ++ flag (s.outstanding ln) ++ num 1 l.replies.length
    ++ num 1 l.notices.length ++ flag l.latchWhileMasked ++ flag l.owed
    ++ (Cond.all.map (condBytes l)).flatten ++ num 2 l.frameErrors ++ num 2 l.lost

/-- Link Status (R177). -/
def ownLinkStatus (ln : Link) (s : State) : State × Answer := tell (linkStatusBytes ln s) s

/-- Link Status, on a link. -/
def execLinkStatus (ln : Link) (tag : Nat) (s : State) : Host.Outcome State Fault Refusal :=
  request ln tag .linkStatus (ownLinkStatus ln) s

/-- Clear Lock (R173). -/
def ownClearLock (ln : Link) (s : State) : State × Answer := say .ok (s.modLink ln (fun l => { l with state := .active }))

/-- Clear Lock, on a link. -/
def execClearLock (ln : Link) (tag : Nat) (s : State) : Host.Outcome State Fault Refusal :=
  request ln tag .clearLock (ownClearLock ln) s

/-! ### Masks and latches -/

/-- The conditions a list of numbers names; none when a number names no condition (R181, R182) or the list is longer than
23 (R182; entry 29). -/
def condsOf (conds : List Nat) : Option (List Cond) :=
  if conds.length ≤ 23 then conds.mapM Cond.ofNumber else none

/-- Queue the frame of a condition that has just been unmasked while its latch is set (R181, step 2). -/
def LinkRec.unmasked (before : LinkRec) (clock : Nat) (l : LinkRec) (c : Cond) : LinkRec :=
  match l.latch c with
  | some x => if before.masked c && !l.masked c && (before.latch c).isSome then l.queueNotice c x clock else l
  | none => l

/-- The masks in which exactly the listed conditions are unmasked. -/
def masksOf (conds : List Cond) : Vector Bool 23 :=
  conds.foldl (fun m c => m.set c.idx false) (Vector.replicate 23 true)

/-- Steps 1 and 2 of Set Notice Masks (R181). -/
def LinkRec.setMasks (l : LinkRec) (conds : List Cond) (latchWhileMasked : Bool) (clock : Nat) : LinkRec :=
  Cond.all.foldl (l.unmasked clock) { l with masks := masksOf conds, latchWhileMasked }

/-- Set Notice Masks (R181). -/
def ownSetNoticeMasks (ln : Link) (conds : List Nat) (latchWhileMasked : Bool) (s : State) : State × Answer :=
  match condsOf conds with
  | some cs => say .ok (s.modLink ln (fun l => l.setMasks cs latchWhileMasked s.jmu.clock))
  | none => say .badValue s

/-- Set Notice Masks, on a link. -/
def execSetNoticeMasks (ln : Link) (tag : Nat) (conds : List Nat) (latchWhileMasked : Bool) (s : State) :
    Host.Outcome State Fault Refusal :=
  request ln tag .setNoticeMasks (ownSetNoticeMasks ln conds latchWhileMasked) s

/-- Clear one latch; clearing that of NOTICE_OVERFLOW ends an owed overflow frame (R180, R182). -/
def LinkRec.clearLatch (l : LinkRec) (c : Cond) : LinkRec :=
  if c = .noticeOverflow then { l.putLatch c none with owed := false } else l.putLatch c none

/-- Clear Notices (R182). -/
def ownClearNotices (ln : Link) (conds : List Nat) (s : State) : State × Answer :=
  match condsOf conds with
  | some cs => say .ok (s.modLink ln (fun l => cs.foldl LinkRec.clearLatch l))
  | none => say .badValue s

/-- Clear Notices, on a link. -/
def execClearNotices (ln : Link) (tag : Nat) (conds : List Nat) (s : State) : Host.Outcome State Fault Refusal :=
  request ln tag .clearNotices (ownClearNotices ln conds) s

end Sys2Proof.Machine
end

