-- ==== Sys2Proof/Machine/ColdStart.lean ====
section
/-! DEFINITION. Cold start with the start-up load (R21, R59, R75, R94, R108, R124, R138, R141, R154, R158, R169, R172, R185),
the end of the load (R169, R170), and the loss of power (R141, R145, R158). -/

namespace Sys2Proof.Machine

open Sys2Proof

/-! ### What a cut-off write leaves, and bits gone wrong -/

/-- The content a cut-off write leaves in its slot; none for a slot left BLANK (R141, R158). A slot that fails its check has
two wrong bits (R140). -/
def TornWrite.slot {α : Type} (t : TornWrite) (c : α) : Option (Slot α) :=
  match t with
  | .blank => none
  | .damaged => some (.written c 2)
  | .written => some (.written c 0)

/-- Write a slot, unless it is left BLANK. -/
def Ring.tear {blocks per : Nat} {α : Type} (r : Ring blocks per α) (i : Nat) (x : Option (Slot α)) : Ring blocks per α :=
  match x with
  | some y => r.write i y
  | none => r

/-- The areas after the write of the taken entry is cut off (R141, R158). -/
def Store.torn (u : Store) (t : TornWrite) : Areas :=
  match u.ctl, u.queue with
  | .writing, e :: _ =>
    match e.body with
    | .strata r => { u.areas with strata := u.areas.strata.tear u.strataPos (t.slot r) }
    | .job r => { u.areas with jobs := u.areas.jobs.tear u.jobsPos (t.slot r) }
    | .settings img => { u.areas with settings := u.areas.settings.put e.failures (t.slot img) }
    | .rods items => { u.areas with rods := u.areas.rods.put e.failures (t.slot items) }
  | _, _ => u.areas

/-- Add wrong bits to one slot of an image area. -/
def ImageArea.decay {α : Type} (a : ImageArea α) (i n : Nat) : ImageArea α :=
  a.put i ((a.get i).map (fun x => x.decay n))

/-- Bits have gone wrong in a stored slot (entry 12). -/
def Areas.decay (a : Areas) (x : SlotDecay) : Areas :=
  match x.area with
  | .settings => { a with settings := a.settings.decay x.index x.wrongBits }
  | .rods => { a with rods := a.rods.decay x.index x.wrongBits }
  | .strata => { a with strata := a.strata.decay x.index x.wrongBits }
  | .jobs => { a with jobs := a.jobs.decay x.index x.wrongBits }

/-! ### The start-up load -/

/-- The contents a load returns, if it returns any (R154). -/
def ReadOut.loaded {α : Type} : ReadOut α → Option α
  | .contents c _ => some c
  | _ => none

/-- The load result (R154). -/
def ReadOut.loadResult {α : Type} : ReadOut α → LoadResult
  | .contents _ false => .clean
  | .contents _ true => .corrected
  | .damaged => .failedCheck
  | .erased | .notFound => .none

/-- A rod as it loads (R21). -/
def RodItem.load (x : RodItem) : Rod :=
  { id := x.id, cls := x.cls, len := x.len, runs := x.runs
    state := match x.mark with
      | some .laidDown => .laidDown
      | some .lost => .lost
      | none => .rack }

/-! ### Roles (R172) -/

/-- The effective role of a link, after the strapped roles of the links before it (R172). -/
def effectiveRole (before : List Role) (strapped : Role) : Role := if before.contains strapped then .observer else strapped

/-- The links at cold start (R172, R185). -/
def LinkUnit.cold (st : Straps) : LinkUnit :=
  { speed := st.speed
    a := LinkRec.cold st.roleA (effectiveRole [] st.roleA)
    b := LinkRec.cold st.roleB (effectiveRole [st.roleA] st.roleB)
    c := LinkRec.cold st.roleC (effectiveRole [st.roleA, st.roleB] st.roleC)
    d := LinkRec.cold st.roleD (effectiveRole [st.roleA, st.roleB, st.roleC] st.roleD) }

/-! ### Cold start -/

/-- A line at cold start: the level outside its pin is what it was (R169). -/
def coldLine (x : Settings) (u : FieldUnit) (i : Fin 12) : LineRec :=
  { LineRec.cold x.lines[i] (i == 5 && x.lines[4].fn == .encoder) with pin := (u.line i).pin }

/-- The Field Line Unit at cold start (R169). -/
def FieldUnit.cold (x : Settings) (u : FieldUnit) : FieldUnit :=
  { lines := #v[coldLine x u 0, coldLine x u 1, coldLine x u 2, coldLine x u 3, coldLine x u 4, coldLine x u 5,
                coldLine x u 6, coldLine x u 7, coldLine x u 8, coldLine x u 9, coldLine x u 10, coldLine x u 11]
    encRef := none, encoderCount := 0, illegalSteps := 0, lastStroke1 := none, lastStroke2 := none, ignored1 := 0
    ignored2 := 0 }

/-- The Record Store at cold start (R154, R158). -/
def Store.cold (a : Areas) : Store :=
  { areas := a, strataPos := a.strata.findPos, jobsPos := a.jobs.findPos, queue := [], ctl := .ready, readList := []
    protect := none, voidCount := 0, marks := ⟨false, false, false, false⟩
    unconfigured := a.settings.readOut.loaded.isNone
    loadSettings := a.settings.readOut.loadResult, loadRods := a.rods.readOut.loadResult }

/-- The machine right after a cold start with these straps and areas. Corrections during the load leave no trace in any
link (R154, R185). -/
def State.cold (s : State) (st : Straps) (a : Areas) : State :=
  let x := (a.settings.readOut.loaded).getD Settings.dflt
  { pending := s.pending
    power := .on
    loaded := false
    now := 0
    free := s.free
    tick := 0
    flu := s.flu.cold x
    str :=
      { classes := x.classes, rods := ((a.rods.readOut.loaded).getD []).map RodItem.load, bha := none, list := []
        cpm := x.cpm, tol := x.tol, offset := 0, slips := .released, d := 0, hole := 0, depth := .reliable }
    cxu := { state := .free, handling := none, last := none }
    ccu :=
      { p1 := Pump.cold x.pump1, p2 := Pump.cold x.pump2, limits := x.limits
        windowInForce := x.limits.window, returned := 0, pw := 0, rw := 0, state := .idle, lastCand := none
        lastFrac := none, lift := 0, lost := 0, gain := 0, lossRaw := false, gainRaw := false, close := none }
    lgu :=
      { sections := x.sections, surface := x.surface, lastAnnulus := none, parcels := []
        sampleWindow := x.sampleWindow, nearLevel := x.nearLevel, nearRaw := false, rise := false }
    slu :=
      { step := x.step, anchor := none, openIv := none, closed := 0, lith := x.lith, lastClass := none, overflow := [] }
    jmu :=
      { state := .noJob, ident := none, clock := 0, lastActivity := none, downtime := none
        meters := Vector.replicate 7 0, drillHold := x.drillHold, tripHold := x.tripHold, lastAdvance := none
        pendingMm := 0, cells := Vector.replicate 24 0, mud := 0, sacks := Vector.replicate 8 0, lostBha := 0
        lostRods := Vector.replicate 4 0, tariff := x.tariff, finalStmt := none, record := none }
    rst := Store.cold a
    liu := LinkUnit.cold st }

/-- Cold start: power-on or the reset pin. A write in progress is cut off, slots may hold wrong bits, the straps are read,
the images are loaded and every unit takes its cold start values (R154). -/
def execColdStart (straps : Straps) (torn : TornWrite) (decay : List SlotDecay) (s : State) :
    Host.Outcome State Fault Refusal :=
  .next (s.cold straps (decay.foldl Areas.decay (s.rst.torn torn)))

/-- The start-up load ends: output lines take their owners' levels (`State.pinDrive`) and the receivers are enabled (R169,
R170). -/
def execStartupLoadComplete (s : State) : Host.Outcome State Fault Refusal :=
  whenOn s (fun s => { s with loaded := true })

/-- The machine without power: what is volatile is gone (entry 40), the areas stay with what a cut-off write leaves (R141,
R158), and the pins keep the levels the outside gives them. -/
def State.dark (s : State) (t : TornWrite) : State :=
  { State.reset with
    pending := s.pending, power := .off, free := s.free
    flu := s.flu.cold Settings.dflt
    rst := { State.reset.rst with areas := s.rst.torn t } }

/-- Power is lost (R141). -/
def execPowerLoss (torn : TornWrite) (s : State) : Host.Outcome State Fault Refusal := .next (s.dark torn)

end Sys2Proof.Machine
end

