-- ==== Sys2Proof/Machine/Events.lean ====
section
/-! DEFINITION. The events of the time base and the field (R47, R50, R84, R85, R109, R162), of the store (R145, R146), and
of the transmitters (R175). An event whose condition does not hold changes nothing (entry 8). -/

namespace Sys2Proof.Machine

open Sys2Proof

/-- The one-second tick (R109). -/
def execTimeBaseTick (s : State) : Host.Outcome State Fault Refusal := whenOn s State.timeTick

/-- A pump's stroke timeout (R47). -/
def execPumpTimeout (pump : PumpId) (s : State) : Host.Outcome State Fault Refusal :=
  whenOn s (fun s => s.pumpStops pump)

/-- The level at a pin changes, `after` tenths of a millisecond past the last event (R162). The level comes from outside, so
it changes without power too. -/
def execPinLevelChange (line : Fin 12) (high : Bool) (after : Nat) (s : State) : Host.Outcome State Fault Refusal :=
  .next (if s.power = .on then (s.passTime after).pinChange line high
    else s.modFlu (fun u => u.putLine line { u.line line with pin := high }))

/-- A line's filter time has run (R162). -/
def execInputFilterExpiry (line : Fin 12) (s : State) : Host.Outcome State Fault Refusal :=
  whenOn s (fun s => s.filterExpiry line)

/-- The balance window completes (R50): P_w has reached the W in force. -/
def execWindowCompletion (s : State) : Host.Outcome State Fault Refusal := whenOn s State.completeWindow

/-- Stage 2 of the examination of a rise of the lift counter (R84): without a rise to examine nothing is DUE (R82). -/
def execDueDetection (s : State) : Host.Outcome State Fault Refusal :=
  whenOn s (fun s => if s.lgu.rise then s.dueDetection else s)

/-- Stage 1 of the examination of a rise of the lift counter (R84): expiry is decided only by rises (R85). -/
def execWindowExpiry (s : State) : Host.Outcome State Fault Refusal :=
  whenOn s (fun s => if s.lgu.rise then s.windowExpiry else s)

/-- A link finishes sending a frame (R175). -/
def execTransmissionEnd (ln : Link) (s : State) : Host.Outcome State Fault Refusal :=
  whenOn s (fun s => s.modLink ln LinkRec.transmissionEnd)

/-- A block erase has run its time (R145). -/
def execEraseComplete (after : Nat) (s : State) : Host.Outcome State Fault Refusal :=
  whenOn s (fun s => (s.passTime after).eraseEnds)

/-- The write and verify of the taken entry end (R146 to R148). -/
def execWriteComplete (verified : Bool) (after : Nat) (s : State) : Host.Outcome State Fault Refusal :=
  whenOn s (fun s => (s.passTime after).writeEnds verified)

/-- What time does on an empty queue of commands: the service of the oldest read of a suspended erase ends (R150; entry 30),
and nothing else. -/
def State.idle (s : State) : State := if s.power = .on then s.serveSuspended else s

end Sys2Proof.Machine
end

