-- ==== Sys2Proof/Machine/Receiver.lean ====
section
/-! DEFINITION. The receiver of a link (R170, R171): bytes collected into frames, discards, and a complete frame handed to
request taking with the owner its request names (R173). -/

namespace Sys2Proof.Machine

open Sys2Proof

/-- What the owner of a request does with it (R173, case 7). A command that is no request has no owner. -/
def owner : Instr → State → State × Answer
  | .setRodClass _ _ cls defined thread cap torque => ownSetRodClass cls defined thread cap torque
  | .registerRod _ _ rod cls len => ownRegisterRod rod cls len
  | .layDownRod _ _ rod => ownLayDownRod rod
  | .restoreRod _ _ rod => ownRestoreRod rod
  | .retireRod _ _ rod => ownRetireRod rod
  | .saveRods _ _ => ownSaveRods
  | .setBha _ _ len cap thread => ownSetBha len cap thread
  | .setDepthLimits _ _ cpm tol => ownSetDepthLimits cpm tol
  | .setBlockHeight _ _ height => ownSetBlockHeight height
  | .declareString _ _ len cap thread runs => ownDeclareString len cap thread runs
  | .declareParted _ _ k => ownDeclareParted k
  | .readStringStatus _ _ => ownReadStringStatus
  | .readStringList _ _ pos => ownReadStringList pos
  | .readRod _ _ rod => ownReadRod rod
  | .readRodTable _ _ start => ownReadRodTable start
  | .pick _ _ rod => ownPick rod
  | .stab _ _ => ownStab
  | .madeUp _ _ torque => ownMadeUp torque
  | .abortAdd _ _ => ownAbortAdd
  | .breakOut _ _ => ownBreakOut
  | .broken _ _ => ownBroken
  | .racked _ _ => ownRacked
  | .laidDown _ _ => ownLaidDown
  | .acknowledgeFault _ _ resolution => ownAcknowledgeFault resolution
  | .readConnectionStatus _ _ => ownReadConnectionStatus
  | .setPump _ _ pump disp eff timeout => ownSetPump pump disp eff timeout
  | .setCirculationLimits _ _ g f t w p => ownSetCirculationLimits g f t w p
  | .readCirculationStatus _ _ => ownReadCirculationStatus
  | .setHoleSections _ _ sections surface => ownSetHoleSections sections surface
  | .readLagGeometry _ _ => ownReadLagGeometry
  | .setSampleWindow _ _ volume level => ownSetSampleWindow volume level
  | .logSample _ _ interval code colour notes => ownLogSample interval code colour notes
  | .readCuttingsQueue _ _ pos => ownReadCuttingsQueue pos
  | .setIntervalStep _ _ step => ownSetIntervalStep step
  | .setLithologyTable _ _ entries => ownSetLithologyTable entries
  | .reportWaterStrike _ _ depth => ownReportWaterStrike depth
  | .addNote _ _ interval note => ownAddNote interval note
  | .readStrataStatus _ _ => ownReadStrataStatus
  | .readLithologyTable _ _ => ownReadLithologyTable
  | .readStrata ln tag index => ownReadStrata ln tag index
  | .readStrataLatest ln tag job => ownReadStrataLatest ln tag job
  | .downtimeStart _ _ kind => ownDowntimeStart kind
  | .downtimeEnd _ _ => ownDowntimeEnd
  | .mixReport _ _ litres entries => ownMixReport litres entries
  | .readJobMeters _ _ => ownReadJobMeters
  | .setTariffs _ _ table drillHold tripHold => ownSetTariffs table drillHold tripHold
  | .statement _ _ => ownStatement
  | .jobOpen _ _ job client start => ownJobOpen job client start
  | .jobClose _ _ => ownJobClose
  | .readTariffs _ _ => ownReadTariffs
  | .saveSettings _ _ => ownSaveSettings
  | .readJob ln tag index part => ownReadJob ln tag index part
  | .readSettingsImage ln tag part => ownReadSettingsImage ln tag part
  | .readRodsImage ln tag start => ownReadRodsImage ln tag start
  | .readStoreStatus _ _ => ownReadStoreStatus
  | .setLineFunction _ _ line function polarity filter => ownSetLineFunction line function polarity filter
  | .driveGeneralOutput _ _ line level => ownDriveGeneralOutput line level
  | .readLineStatus _ _ => ownReadLineStatus
  | .linkReset ln _ => ownLinkReset ln
  | .linkStatus ln _ => ownLinkStatus ln
  | .clearLock ln _ => ownClearLock ln
  | .setNoticeMasks ln _ conds latchWhileMasked => ownSetNoticeMasks ln conds latchWhileMasked
  | .clearNotices ln _ conds => ownClearNotices ln conds
  | .coldStart _ _ _ | .startupLoadComplete | .timeBaseTick | .pumpTimeout _ | .pinLevelChange _ _ _
  | .inputFilterExpiry _ | .windowCompletion | .dueDetection | .windowExpiry | .interByteTimeout _
  | .frameDiscard _ _ | .unknownKind _ _ _ | .transmissionEnd _ | .eraseComplete _ | .writeComplete _ _
  | .byteArrival _ _ _ | .powerLoss _ => fun s => (s, .deferred)

/-- A complete frame is handed to request taking (R173). -/
def State.takeFrame (s : State) (ln : Link) (kind tag : Nat) (body : List Byte) : State :=
  match Kind.ofNumber kind with
  | some k => s.takeRequest ln tag k (body.length == bodyLength k) (owner (decodeRequest ln tag k body))
  | none => s.takeUnknown ln tag kind

/-- A start byte begins a frame in HUNTING; every other byte is discarded (R170). -/
def State.hunt (s : State) (ln : Link) (b : Byte) : State :=
  if b = 165 then s.modLink ln (fun l => { l with rx := .inFrame [] s.now }) else s

/-- The longest span between the ends of two bytes of a frame, 20 ms in tenths (R171). -/
def byteGap : Nat := 200

/-- The bytes of a frame after its start byte, the newest included: a wrong length is found at the length byte, the check at
the check byte (R170, R171). -/
def State.collect (s : State) (ln : Link) (bytes : List Byte) : State :=
  match bytes with
  | n :: rest =>
    if n.toNat < 2 ∨ 250 < n.toNat then s.discardFrame ln .length
    else if bytes.length < n.toNat + 2 then s.modLink ln (fun l => { l with rx := .inFrame bytes s.now })
    else if crc8 (bytes.take (n.toNat + 1)) ≠ (bytes.getLast?).getD 0 then s.discardFrame ln .check
    else
      let s := s.modLink ln (fun l => { l with rx := .hunting })
      match rest with
      | kind :: tag :: body => s.takeFrame ln kind.toNat tag.toNat (body.take (n.toNat - 2))
      | _ => s
  | [] => s

/-- A byte ends on an enabled receiver at the present moment (R170, R171). -/
def State.receive (s : State) (ln : Link) (b : Byte) : State :=
  match (s.link ln).rx with
  | .hunting => s.hunt ln b
  | .inFrame bytes last =>
    if last + byteGap < s.now then (s.discardFrame ln .timeout).hunt ln b else s.collect ln (bytes ++ [b])

/-- A byte arrives on a link, `after` tenths of a millisecond past the last event (R170). -/
def execByteArrival (ln : Link) (byte : Byte) (after : Nat) (s : State) : Host.Outcome State Fault Refusal :=
  whenOn s (fun s =>
    let s := s.passTime after
    if s.loaded then s.receive ln byte else s)

/-- The inter-byte time of a frame has run (R171); in HUNTING there is none. -/
def execInterByteTimeout (ln : Link) (s : State) : Host.Outcome State Fault Refusal :=
  whenReady s (fun s =>
    match (s.link ln).rx with
    | .hunting => s
    | .inFrame _ last => (s.timeTo (last + byteGap)).discardFrame ln .timeout)

/-- A frame is discarded without reply (R171). -/
def execFrameDiscard (ln : Link) (cause : FrameCause) (s : State) : Host.Outcome State Fault Refusal :=
  whenReady s (fun s => s.discardFrame ln cause)

/-- A complete frame whose kind names no request (R173). -/
def execUnknownKind (ln : Link) (tag kind : Nat) (s : State) : Host.Outcome State Fault Refusal :=
  whenReady s (fun s => s.takeFrame ln kind tag [])

end Sys2Proof.Machine
end

