-- ==== Sys2Proof/Machine/Dispatch.lean ====
section
/-! DEFINITION. One arm for each command of the table, each one call of its meaning. -/

namespace Sys2Proof.Machine

open Sys2Proof

/-- A command's effect on everything but the queue of commands. -/
def exec (i : Instr) (s : State) : Host.Outcome State Fault Refusal :=
  match i with
  | .coldStart straps torn decay => Sys2Proof.Machine.execColdStart straps torn decay s
  | .startupLoadComplete => Sys2Proof.Machine.execStartupLoadComplete s
  | .timeBaseTick => Sys2Proof.Machine.execTimeBaseTick s
  | .pumpTimeout pump => Sys2Proof.Machine.execPumpTimeout pump s
  | .pinLevelChange line high after => Sys2Proof.Machine.execPinLevelChange line high after s
  | .inputFilterExpiry line => Sys2Proof.Machine.execInputFilterExpiry line s
  | .windowCompletion => Sys2Proof.Machine.execWindowCompletion s
  | .dueDetection => Sys2Proof.Machine.execDueDetection s
  | .windowExpiry => Sys2Proof.Machine.execWindowExpiry s
  | .interByteTimeout ln => Sys2Proof.Machine.execInterByteTimeout ln s
  | .frameDiscard ln cause => Sys2Proof.Machine.execFrameDiscard ln cause s
  | .unknownKind ln tag kind => Sys2Proof.Machine.execUnknownKind ln tag kind s
  | .transmissionEnd ln => Sys2Proof.Machine.execTransmissionEnd ln s
  | .eraseComplete after => Sys2Proof.Machine.execEraseComplete after s
  | .writeComplete verified after => Sys2Proof.Machine.execWriteComplete verified after s
  | .setRodClass ln tag cls defined thread cap torque => Sys2Proof.Machine.execSetRodClass ln tag cls defined thread cap torque s
  | .registerRod ln tag rod cls len => Sys2Proof.Machine.execRegisterRod ln tag rod cls len s
  | .layDownRod ln tag rod => Sys2Proof.Machine.execLayDownRod ln tag rod s
  | .restoreRod ln tag rod => Sys2Proof.Machine.execRestoreRod ln tag rod s
  | .retireRod ln tag rod => Sys2Proof.Machine.execRetireRod ln tag rod s
  | .saveRods ln tag => Sys2Proof.Machine.execSaveRods ln tag s
  | .setBha ln tag len cap thread => Sys2Proof.Machine.execSetBha ln tag len cap thread s
  | .setDepthLimits ln tag cpm tol => Sys2Proof.Machine.execSetDepthLimits ln tag cpm tol s
  | .setBlockHeight ln tag height => Sys2Proof.Machine.execSetBlockHeight ln tag height s
  | .declareString ln tag len cap thread runs => Sys2Proof.Machine.execDeclareString ln tag len cap thread runs s
  | .declareParted ln tag k => Sys2Proof.Machine.execDeclareParted ln tag k s
  | .readStringStatus ln tag => Sys2Proof.Machine.execReadStringStatus ln tag s
  | .readStringList ln tag pos => Sys2Proof.Machine.execReadStringList ln tag pos s
  | .readRod ln tag rod => Sys2Proof.Machine.execReadRod ln tag rod s
  | .readRodTable ln tag start => Sys2Proof.Machine.execReadRodTable ln tag start s
  | .pick ln tag rod => Sys2Proof.Machine.execPick ln tag rod s
  | .stab ln tag => Sys2Proof.Machine.execStab ln tag s
  | .madeUp ln tag torque => Sys2Proof.Machine.execMadeUp ln tag torque s
  | .abortAdd ln tag => Sys2Proof.Machine.execAbortAdd ln tag s
  | .breakOut ln tag => Sys2Proof.Machine.execBreakOut ln tag s
  | .broken ln tag => Sys2Proof.Machine.execBroken ln tag s
  | .racked ln tag => Sys2Proof.Machine.execRacked ln tag s
  | .laidDown ln tag => Sys2Proof.Machine.execLaidDown ln tag s
  | .acknowledgeFault ln tag resolution => Sys2Proof.Machine.execAcknowledgeFault ln tag resolution s
  | .readConnectionStatus ln tag => Sys2Proof.Machine.execReadConnectionStatus ln tag s
  | .setPump ln tag pump disp eff timeout => Sys2Proof.Machine.execSetPump ln tag pump disp eff timeout s
  | .setCirculationLimits ln tag gainT fullT totalT window pulse => Sys2Proof.Machine.execSetCirculationLimits ln tag gainT fullT totalT window pulse s
  | .readCirculationStatus ln tag => Sys2Proof.Machine.execReadCirculationStatus ln tag s
  | .setHoleSections ln tag sections surface => Sys2Proof.Machine.execSetHoleSections ln tag sections surface s
  | .readLagGeometry ln tag => Sys2Proof.Machine.execReadLagGeometry ln tag s
  | .setSampleWindow ln tag volume level => Sys2Proof.Machine.execSetSampleWindow ln tag volume level s
  | .logSample ln tag interval code colour notes => Sys2Proof.Machine.execLogSample ln tag interval code colour notes s
  | .readCuttingsQueue ln tag pos => Sys2Proof.Machine.execReadCuttingsQueue ln tag pos s
  | .setIntervalStep ln tag step => Sys2Proof.Machine.execSetIntervalStep ln tag step s
  | .setLithologyTable ln tag entries => Sys2Proof.Machine.execSetLithologyTable ln tag entries s
  | .reportWaterStrike ln tag depth => Sys2Proof.Machine.execReportWaterStrike ln tag depth s
  | .addNote ln tag interval note => Sys2Proof.Machine.execAddNote ln tag interval note s
  | .readStrataStatus ln tag => Sys2Proof.Machine.execReadStrataStatus ln tag s
  | .readLithologyTable ln tag => Sys2Proof.Machine.execReadLithologyTable ln tag s
  | .readStrata ln tag index => Sys2Proof.Machine.execReadStrata ln tag index s
  | .readStrataLatest ln tag job => Sys2Proof.Machine.execReadStrataLatest ln tag job s
  | .downtimeStart ln tag kind => Sys2Proof.Machine.execDowntimeStart ln tag kind s
  | .downtimeEnd ln tag => Sys2Proof.Machine.execDowntimeEnd ln tag s
  | .mixReport ln tag litres entries => Sys2Proof.Machine.execMixReport ln tag litres entries s
  | .readJobMeters ln tag => Sys2Proof.Machine.execReadJobMeters ln tag s
  | .setTariffs ln tag table drillHold tripHold => Sys2Proof.Machine.execSetTariffs ln tag table drillHold tripHold s
  | .statement ln tag => Sys2Proof.Machine.execStatement ln tag s
  | .jobOpen ln tag job client start => Sys2Proof.Machine.execJobOpen ln tag job client start s
  | .jobClose ln tag => Sys2Proof.Machine.execJobClose ln tag s
  | .readTariffs ln tag => Sys2Proof.Machine.execReadTariffs ln tag s
  | .saveSettings ln tag => Sys2Proof.Machine.execSaveSettings ln tag s
  | .readJob ln tag index part => Sys2Proof.Machine.execReadJob ln tag index part s
  | .readSettingsImage ln tag part => Sys2Proof.Machine.execReadSettingsImage ln tag part s
  | .readRodsImage ln tag start => Sys2Proof.Machine.execReadRodsImage ln tag start s
  | .readStoreStatus ln tag => Sys2Proof.Machine.execReadStoreStatus ln tag s
  | .setLineFunction ln tag line function polarity filter => Sys2Proof.Machine.execSetLineFunction ln tag line function polarity filter s
  | .driveGeneralOutput ln tag line level => Sys2Proof.Machine.execDriveGeneralOutput ln tag line level s
  | .readLineStatus ln tag => Sys2Proof.Machine.execReadLineStatus ln tag s
  | .linkReset ln tag => Sys2Proof.Machine.execLinkReset ln tag s
  | .linkStatus ln tag => Sys2Proof.Machine.execLinkStatus ln tag s
  | .clearLock ln tag => Sys2Proof.Machine.execClearLock ln tag s
  | .setNoticeMasks ln tag conds latchWhileMasked => Sys2Proof.Machine.execSetNoticeMasks ln tag conds latchWhileMasked s
  | .clearNotices ln tag conds => Sys2Proof.Machine.execClearNotices ln tag conds s
  | .byteArrival ln byte after => Sys2Proof.Machine.execByteArrival ln byte after s
  | .powerLoss torn => Sys2Proof.Machine.execPowerLoss torn s

end Sys2Proof.Machine
end

