-- ==== Sys2Proof/Safety.lean ====
section
/-! DEFINITION. What counts as a safe run, in the terms the statements use: the invariants a step keeps, when a link takes a
request, and a frame delivered byte by byte. -/

namespace Sys2Proof.Machine

open Sys2Proof

/-! ### Taking a request -/

/-- The part has power and its start-up load has completed. -/
def State.Ready (s : State) : Prop := s.power = .on ∧ s.loaded = true

/-- A complete frame of kind `k` on the link gets past cases 1 to 5 of R173 to its owner: room in the reply list, nothing
outstanding, no lock in its way, and a role that may make the request. -/
def CanTake (s : State) (ln : Link) (k : Kind) : Prop :=
  s.Ready ∧ s.repliesFull ln = false ∧ s.outstanding ln = false ∧ ((s.link ln).state = .active ∨ k.passesLock = true)
    ∧ permits (s.link ln).effective k = true

/-- The role strap of a link (R172). -/
def Straps.role (st : Straps) : Link → Role
  | .a => st.roleA
  | .b => st.roleB
  | .c => st.roleC
  | .d => st.roleD

/-- The bytes arrive on a link one after another, each at the present moment. -/
def deliver (ln : Link) : List Byte → State → Host.Outcome State Fault Refusal
  | [], s => .next s
  | b :: bs, s =>
    match exec (.byteArrival ln b 0) s with
    | .next t => deliver ln bs t
    | .fault f => .fault f
    | .refused r => .refused r

/-! ### Invariants -/

/-- The rings of the store are in their canonical form (R140): one content a slot, every slot in the ring. -/
def RingsOk (s : State) : Prop := s.rst.areas.strata.wf = true ∧ s.rst.areas.jobs.wf = true

/-- The bit is never below the hole, nor the hole below 1,500,000 mm (R12, R17). -/
def DepthsOk (s : State) : Prop := s.str.d ≤ s.str.hole ∧ s.str.hole ≤ maxDepth

/-- While a job is OPEN the seven meters add up to the job clock (R112). -/
def MetersOk (s : State) : Prop := s.jmu.state = .opened → s.jmu.meters.toList.sum = s.jmu.clock

/-- The lift counter has not passed the pumped volumes of the two pumps (R55). -/
def LiftOk (s : State) : Prop := s.ccu.lift ≤ s.ccu.p1.vol + s.ccu.p2.vol

/-- Does each target reach the one before it? -/
def nonDecreasing : List Nat → Bool
  | x :: y :: r => x ≤ y && nonDecreasing (y :: r)
  | _ => true

/-- The cuttings queue holds at most 32 parcels, no interval twice (their numbers rise), effective targets that do not fall
(R77), and no interval as new as the open one. -/
def QueueOk (s : State) : Prop :=
  s.lgu.parcels.length ≤ 32
    ∧ strictlyRising (s.lgu.parcels.map (·.record.interval)) = true
    ∧ nonDecreasing (s.lgu.parcels.map (·.eff)) = true
    ∧ ∀ iv, s.slu.openIv = some iv → ∀ p ∈ s.lgu.parcels, p.record.interval < iv.number

/-- Is a rod in handling in this connection state (R22)? -/
def ConnState.hasRod : ConnState → Bool
  | .addPicked | .addStabbed | .breakOpen => true
  | .free | .breakRequested => false
  | .fault r => r.origin != .breakRequested

/-- The rod in handling is present in the connection states that have one (R22), and a requested break has a rod to
break. -/
def HandlingOk (s : State) : Prop :=
  s.cxu.handling.isSome = s.cxu.state.hasRod ∧ (s.cxu.state = .breakRequested → s.str.list ≠ [])

/-- A link's lists keep to their room, one place of the reply list being kept for an outstanding request (R174, R180), and
an idle transmitter has nothing to send (R175). -/
def LinkOk (s : State) (ln : Link) : Prop :=
  (s.link ln).replies.length + (s.rst.readList.filter (fun p => p.ln == ln)).length ≤ 4
    ∧ (s.rst.readList.filter (fun p => p.ln == ln)).length ≤ 1
    ∧ (s.link ln).notices.length ≤ 16
    ∧ ((s.link ln).sending = none → (s.link ln).replies = [] ∧ (s.link ln).notices = [])

/-- The lists of every link, the commit queue (R142) and the overflow (R91) keep to their room. -/
def RoomsOk (s : State) : Prop :=
  (∀ ln, LinkOk s ln) ∧ s.rst.queue.length ≤ 12 ∧ s.slu.overflow.length ≤ 4

/-- Pump constants in their ranges (R43). -/
def PumpConst.ok (c : PumpConst) : Bool :=
  c.disp.all (inRange 100 60000) && inRange 500 1000 c.eff && inRange 2 30 c.timeout

/-- Circulation limits in their ranges and order (R51). -/
def CircLimits.ok (l : CircLimits) : Bool :=
  inRange 1050 2000 l.gainT && inRange 200 1000 l.fullT && inRange 50 900 l.totalT && inRange 50000 5000000 l.window
    && inRange 10 10000 l.pulse && decide (l.fullT < l.gainT) && decide (l.totalT < l.fullT)

/-- A rod class entry in its ranges (R1). -/
def RodClass.ok (c : RodClass) : Bool := inRange 1 15 c.thread && inRange 500 60000 c.cap && inRange 100 30000 c.torque

/-- A hole section table in its ranges and order (R61). -/
def sectionsOk (l : List Section) : Bool :=
  inRange 1 8 l.length && l.all (fun x => inRange 1 maxDepth x.bottom && inRange 1000 400000 x.cap)
    && strictlyRising (l.map (·.bottom))

/-- A tariff table in its ranges, its bounds rising from 0 (R125). -/
def Tariff.ok (t : Tariff) : Bool :=
  t.bounds[0] == 0 && t.bounds.toList.all (fun b => b ≤ maxDepth) && strictlyRising t.bounds.toList
    && t.metre.toList.all (fun p => p ≤ maxPrice) && t.hourly.toList.all (fun p => p ≤ maxPrice)
    && decide (t.mud ≤ maxPrice) && decide (t.lostVolume ≤ maxPrice) && t.additive.toList.all (fun p => p ≤ maxPrice)
    && t.lostRod.toList.all (fun p => p ≤ maxPrice) && decide (t.lostBha ≤ maxPrice) && decide (t.mobilisation ≤ maxPrice)

/-- One line's settings: a function the line may hold, ENCODER on FL5 being FL4's, and a filter time in its range (SLIPS has
its default beyond it, entry 44) for an input alone (R159, R160). -/
def LineCfg.okOn (c : LineCfg) (i : Fin 12) : Bool :=
  (c.fn.allowedOn i || (i == 5 && c.fn == .encoder))
    && (match c.filter with
      | some f => c.fn.isInput && (inRange 5 200 f || f == c.fn.defaultFilter)
      | none => !c.fn.isInput)

/-- May two lines hold these functions? ENCODER stands on FL4 and FL5 together (R160). -/
def sharedOk (i j : Fin 12) (f g : LineFn) : Bool :=
  i == j || f != g || !f.unique || (f == .encoder && (i == 4 || i == 5) && (j == 4 || j == 5))

/-- The ninth group of a settings image (R143): each line's settings in range, no function on two lines but those that may
be, and FL5 with ENCODER exactly when FL4 has it (R159, R160). -/
def linesOk (l : Vector LineCfg 12) : Bool :=
  (List.finRange 12).all (fun i => l[i].okOn i && (List.finRange 12).all (fun j => sharedOk i j l[i].fn l[j].fn))
    && (l[4].fn == .encoder) == (l[5].fn == .encoder)

/-- A whole settings image in its ranges (R1, R9, R43, R51, R61, R63, R79, R96, R100, R111, R125, R159, R160). -/
def Settings.ok (x : Settings) : Bool :=
  x.classes.toList.all (fun c => c.all RodClass.ok) && inRange 200 40000 x.cpm && inRange 100 2000 x.tol && x.pump1.ok
    && x.pump2.ok && x.limits.ok && sectionsOk x.sections && decide (x.surface ≤ 2000000)
    && inRange 20000 2000000 x.sampleWindow && inRange 8 32 x.nearLevel && inRange 250 5000 x.step && x.step % 50 == 0
    && decide (x.lith.length ≤ 63) && x.lith.all (fun e => inRange 1 63 e.code) && strictlyRising (x.lith.map (·.code))
    && x.tariff.ok && inRange 30 900 x.drillHold && inRange 60 1800 x.tripHold
    && linesOk x.lines

/-- A slot that holds a settings image holds one in its ranges. -/
def settingsSlotOk : Option (Slot Settings) → Bool
  | some (.written x _) => x.ok
  | _ => true

/-- A commit queue entry that carries a settings image carries one in its ranges. -/
def EntryBody.settingsOk : EntryBody → Bool
  | .settings x => x.ok
  | _ => true

/-- The live settings, every settings image in the store and every one waiting for it are in their ranges; a line is claimed
exactly when it is FL5 under FL4's ENCODER (R159, R161). -/
def SettingsOk (s : State) : Prop :=
  (∀ i : Fin 12, (s.flu.line i).claimed = (i == 5 && (s.flu.line 4).cfg.fn == .encoder))
    ∧ s.settings.ok = true ∧ settingsSlotOk s.rst.areas.settings.slot0 = true
    ∧ settingsSlotOk s.rst.areas.settings.slot1 = true ∧ s.rst.queue.all (fun e => e.body.settingsOk) = true

/-- A rods image as Save Rods makes one (R2, R6): at most 320 items, ids from 1 to 65,534 rising. -/
def rodItemsOk (l : List RodItem) : Bool :=
  decide (l.length ≤ 320) && strictlyRising (l.map (·.id)) && l.all (fun x => inRange 1 65534 x.id)

/-- A slot that holds a rods image holds one that is in order. -/
def rodsSlotOk : Option (Slot (List RodItem)) → Bool
  | some (.written x _) => rodItemsOk x
  | _ => true

/-- A commit queue entry that carries a rods image carries one that is in order. -/
def EntryBody.rodsOk : EntryBody → Bool
  | .rods x => rodItemsOk x
  | _ => true

/-- Is an add under way, or faulted on the way? Its rod may still join the string. -/
def ConnState.adding : ConnState → Bool
  | .addPicked | .addStabbed => true
  | .fault r => !r.origin.withdrawn
  | .free | .breakRequested | .breakOpen => false

/-- The rod table, the string list and the rod in handling agree (R2): ids rise, at most 320; no rod twice in the string, at
most 300, and all of them registered; a rod is STRING exactly when it is in the string list and HANDLING exactly when it is
the rod in handling. Beside them the connection states of R22 and the rods images from which a table is loaded. -/
def RodsOk (s : State) : Prop :=
  HandlingOk s
    ∧ s.str.rods.length ≤ 320 ∧ strictlyRising (s.str.rods.map (·.id)) = true ∧ (∀ r ∈ s.str.rods, inRange 1 65534 r.id = true)
    ∧ s.str.list.length ≤ 300 ∧ (s.cxu.state.adding = true → s.str.list.length < 300) ∧ s.str.list.Nodup
    ∧ (∀ id ∈ s.str.list, ∃ r ∈ s.str.rods, r.id = id)
    ∧ (∀ id, s.cxu.handling = some id → ∃ r ∈ s.str.rods, r.id = id)
    ∧ (∀ r ∈ s.str.rods, (r.state = .string ↔ r.id ∈ s.str.list) ∧ (r.state = .handling ↔ s.cxu.handling = some r.id))
    ∧ rodsSlotOk s.rst.areas.rods.slot0 = true ∧ rodsSlotOk s.rst.areas.rods.slot1 = true
    ∧ s.rst.queue.all (fun e => e.body.rodsOk) = true

/-- The millimetres of the intervals whose parcels are not final yet. -/
def State.risingMm (s : State) : Nat :=
  ((s.lgu.parcels.filter fun p => p.status != .finalWaiting).map fun p => p.record.bottom - p.record.top).sum

/-- The balance of R116: while a job is OPEN or CLOSING, hole depth is start depth plus pending plus the cells. It rests on the
grid of R95 and R97 (the open interval holds the hole's end and what was drilled in it), on pending being what is drilled in
it and in the unfinished parcels, and on the settings and the order of the queue. -/
def BalanceOk (s : State) : Prop :=
  SettingsOk s ∧ QueueOk s
    ∧ (s.jmu.state ≠ .noJob → ∃ id, s.jmu.ident = some id
        ∧ s.str.hole = id.start + s.jmu.pendingMm + s.jmu.cells.toList.sum)
    ∧ (s.jmu.state = .opened → ∃ iv, s.slu.openIv = some iv ∧ s.str.hole = iv.top + iv.drilled ∧ s.str.hole < iv.bottom
        ∧ s.jmu.pendingMm = iv.drilled + s.risingMm)
    ∧ ∀ ph, s.jmu.state = .closing ph → s.slu.openIv = none ∧ ∀ p ∈ s.lgu.parcels, p.status = .finalWaiting

/-! ### What the rules say of a window and of a slot -/

/-- The candidate state of a returns fraction by the thresholds (R50). -/
def bandOf (l : CircLimits) (f : Nat) : CircState :=
  if l.gainT ≤ f then .gain else if l.fullT ≤ f then .circulating else if l.totalT ≤ f then .partialLoss else .totalLoss

/-- The state after the judgement of a window with returns fraction `f`: the first case of R53's table that holds. -/
def stateAfter (u : CircUnit) (f : Nat) : CircState :=
  let c := bandOf u.limits f
  if u.state = .starting then c
  else if c = .totalLoss ∧ (u.state = .circulating ∨ u.state = .partialLoss ∨ u.state = .totalLoss ∨ u.state = .gain) then
    .totalLoss
  else if c = u.state then u.state
  else if u.lastCand = some c then c
  else u.state

/-- The image an area holds, with the number of its wrong bits: that of its WRITTEN slot (R152). -/
def ImageArea.image {α : Type} (a : ImageArea α) : Option (α × Nat) :=
  match a.slot0, a.slot1 with
  | some (.written c n), _ => some (c, n)
  | _, some (.written c n) => some (c, n)
  | _, _ => none

/-- The table of R151 for one slot: the status, the bytes after it (R187), and whether STORE_CORRECTED fires. -/
def slotOutcome {α : Type} (x : Option (Slot α)) (index : Nat) (bytes : α → List Byte) : Status × List Byte × Bool :=
  match x with
  | none => (.erased, num 2 index, false)
  | some .void => (.notFound, num 2 index, false)
  | some (.written c n) =>
    if n = 0 then (.ok, num 2 index ++ flag false ++ bytes c, false)
    else if n = 1 then (.ok, num 2 index ++ flag true ++ bytes c, true)
    else (.damaged, num 2 index, false)

end Sys2Proof.Machine
end

