-- ==== Sys2Proof/Certificates/Slice0/Obligations.lean ====
section
/-! DEFINITION. The statements for the provers. Each says what the spec's rules give; the docstring names the rules. -/

open Sys2Proof Machine

/-! ### The queue of commands, cold start and power -/

/-- The command at the front of the queue is run with the rest of the queue (the model's own queue, entry 4). On an empty queue
nothing happens, but that in a suspended erase the oldest read of the list is served and the erase resumes with the last one
(R150; that the service ends on an empty queue is the model's choice, entry 30). -/
def Obligations.StepRunsFrontCommand : Prop :=
  (∀ (c : Instr) (rest : List Instr) (s : State),
      step { s with pending := c :: rest } = exec c { s with pending := rest })
    ∧ ∀ s : State, s.pending = [] →
        (s.power = .off ∨ (∀ e, s.rst.ctl ≠ .suspended e) → step s = .next s)
        ∧ ∀ e, s.power = .on → s.rst.ctl = .suspended e →
            let resumed : Ctl := .erasing { e with since := s.now }
            (s.rst.readList = [] → step s = .next { s with rst := { s.rst with ctl := resumed } })
            ∧ ∀ p rest, s.rst.readList = p :: rest →
                let out := serve p.req { s with rst := { s.rst with readList := rest } }
                let t := out.1.reply p.ln ⟨p.req.kind.number, p.tag, out.2.1, [out.2.2]⟩
                step s = .next
                  { t with rst := { s.rst with readList := rest, ctl := if rest = [] then resumed else .suspended e } }

/-- STARTUP_LOAD_COMPLETE: every pin is released before it; it enables the receivers and nothing else; after it each output
line takes its owner's level with its polarity (R166, R169, R170, R32, R184). -/
def Obligations.StartupLoadDrivesOutputs : Prop :=
  ∀ (s : State) (i : Fin 12), s.power = .on →
    exec .startupLoadComplete s = .next { s with loaded := true }
      ∧ (s.loaded = false → s.pinDrive i = none)
      ∧ ({ s with loaded := true } : State).pinDrive i =
          (let high := (s.flu.line i).cfg.pol == .activeHigh
           match (s.flu.line i).cfg.fn with
           | .pumpPermit => some (s.cxu.state.permit == high)
           | .attentionA => some (s.liu.a.attention == high)
           | .attentionB => some (s.liu.b.attention == high)
           | .attentionC => some (s.liu.c.attention == high)
           | .attentionD => some (s.liu.d.attention == high)
           | .generalOut => some (((s.flu.line i).general == .asserted) == high)
           | _ => none)

/-- COLD_START in the Field Line Unit, the String Table Unit and the Connection Unit: the values of R169, R21 and R22, and
block height 0 (R10), whatever the state before. -/
def Obligations.ColdStartFieldAndString : Prop :=
  ∀ (st : Straps) (torn : TornWrite) (decay : List SlotDecay) (s : State),
    ∃ t, exec (.coldStart st torn decay) s = .next t
      ∧ (let x := (t.rst.areas.settings.readOut.loaded).getD Settings.dflt
         (∀ i : Fin 12, (t.flu.line i).cfg = x.lines[i] ∧ (t.flu.line i).filtered = none
            ∧ (t.flu.line i).general = .deasserted ∧ (t.flu.line i).pin = (s.flu.line i).pin
            ∧ ((t.flu.line i).claimed = true ↔ i = 5 ∧ x.lines[4].fn = .encoder))
          ∧ t.flu.encRef = none
          ∧ t.flu.encoderCount = 0 ∧ t.flu.illegalSteps = 0 ∧ t.flu.lastStroke1 = none ∧ t.flu.lastStroke2 = none
          ∧ t.flu.ignored1 = 0 ∧ t.flu.ignored2 = 0
          ∧ t.str.classes = x.classes ∧ t.str.cpm = x.cpm ∧ t.str.tol = x.tol
          ∧ t.str.rods = ((t.rst.areas.rods.readOut.loaded).getD []).map RodItem.load)
      ∧ t.str.bha = none ∧ t.str.list = [] ∧ t.str.length = 0 ∧ t.str.topThread = none ∧ t.str.offset = 0
      ∧ t.str.slips = .released ∧ t.str.d = 0 ∧ t.str.hole = 0 ∧ t.str.depth = .reliable ∧ t.height = 0
      ∧ t.cxu = { state := .free, handling := none, last := none } ∧ t.pending = s.pending

/-- COLD_START in the Circulation Unit and the Lag Unit: the values of R59, R75 and R94. -/
def Obligations.ColdStartCirculationAndLag : Prop :=
  ∀ (st : Straps) (torn : TornWrite) (decay : List SlotDecay) (s : State),
    ∃ t, exec (.coldStart st torn decay) s = .next t
      ∧ (let x := (t.rst.areas.settings.readOut.loaded).getD Settings.dflt
         t.ccu.p1.const = x.pump1 ∧ t.ccu.p2.const = x.pump2 ∧ t.ccu.limits = x.limits
          ∧ t.lgu.sections = x.sections ∧ t.lgu.surface = x.surface ∧ t.lgu.sampleWindow = x.sampleWindow
          ∧ t.lgu.nearLevel = x.nearLevel)
      ∧ (∀ p : PumpId, (t.ccu.pump p).strokes = 0 ∧ (t.ccu.pump p).vol = 0 ∧ (t.ccu.pump p).rem = 0
          ∧ (t.ccu.pump p).running = false ∧ (t.ccu.pump p).countdown = 0)
      ∧ t.ccu.returned = 0 ∧ t.ccu.lost = 0 ∧ t.ccu.gain = 0 ∧ t.ccu.pw = 0 ∧ t.ccu.rw = 0 ∧ t.ccu.state = .idle
      ∧ t.ccu.lastCand = none ∧ t.ccu.lastFrac = none ∧ t.ccu.lift = 0 ∧ t.ccu.close = none
      ∧ t.rawValue .pumpsRunning = false ∧ t.rawValue .circLoss = false ∧ t.rawValue .circGain = false
      ∧ t.ccu.windowInForce = t.ccu.limits.window
      ∧ t.lgu.lastAnnulus = none ∧ t.lgu.parcels = [] ∧ t.rawValue .queueNearFull = false ∧ t.lgu.rise = false

/-- COLD_START in the Strata Log Unit and the Job Meter Unit: the values of R108, R124 and R138. -/
def Obligations.ColdStartStrataAndJob : Prop :=
  ∀ (st : Straps) (torn : TornWrite) (decay : List SlotDecay) (s : State),
    ∃ t, exec (.coldStart st torn decay) s = .next t
      ∧ (let x := (t.rst.areas.settings.readOut.loaded).getD Settings.dflt
         t.slu.step = x.step ∧ t.slu.lith = x.lith ∧ t.jmu.tariff = x.tariff ∧ t.jmu.drillHold = x.drillHold
          ∧ t.jmu.tripHold = x.tripHold)
      ∧ t.slu.anchor = none ∧ t.slu.openIv = none ∧ t.slu.closed = 0 ∧ t.slu.lastClass = none ∧ t.slu.overflow = []
      ∧ t.jmu.state = .noJob ∧ t.jmu.ident = none ∧ t.jmu.clock = 0 ∧ t.jmu.meters = Vector.replicate 7 0
      ∧ t.jmu.lastActivity = none ∧ t.jmu.downtime = none ∧ t.jmu.lastAdvance = none ∧ t.jmu.pendingMm = 0
      ∧ t.jmu.cells = Vector.replicate 24 0 ∧ t.jmu.mud = 0 ∧ t.jmu.sacks = Vector.replicate 8 0 ∧ t.jmu.lostBha = 0
      ∧ t.jmu.lostRods = Vector.replicate 4 0 ∧ t.jmu.finalStmt = none ∧ t.jmu.record = none ∧ t.tick = 0

/-- POWER_LOSS, and COLD_START in the Record Store and the links. At a loss of power the areas stay as they are but for the
target slot of a write in progress, which is left BLANK, with two wrong bits, or WRITTEN (R141, R158; which of the three is an
operand, entry 11), its block's sequence number as R140 gives it; without power no command but a cold start, a loss of power
or a change of a pin does anything (entries 10 and 40). At cold start a write in progress ends in the same way and slots may
hold wrong bits (an operand, entry 12); the write positions, the loads and their results are those of R141, R152 and R154, the
rest the values of R158 and R185, the transmitters idle (entry 54). -/
def Obligations.StoreOverPowerLossAndColdStart : Prop :=
  (∀ (torn : TornWrite) (s : State), ∃ t, exec (.powerLoss torn) s = .next t
    ∧ t.power = .off ∧ t.loaded = false ∧ t.pending = s.pending
    ∧ (s.rst.ctl ≠ .writing ∨ s.rst.queue = [] → t.rst.areas = s.rst.areas)
    ∧ (∀ e rest, s.rst.ctl = .writing → s.rst.queue = e :: rest →
        match e.body with
        | .strata r =>
          s.rst.strataPos < 8192 → ∃ ring, t.rst.areas = { s.rst.areas with strata := ring }
            ∧ (∀ i, i ≠ s.rst.strataPos → ring.get i = s.rst.areas.strata.get i)
            ∧ ring.get s.rst.strataPos =
                (match torn with
                 | .blank => s.rst.areas.strata.get s.rst.strataPos
                 | .damaged => some (.written r 2)
                 | .written => some (.written r 0))
            ∧ (∀ b, b ≠ s.rst.strataPos / 256 → ring.seq b = s.rst.areas.strata.seq b)
            ∧ (torn = .blank → ring.seq (s.rst.strataPos / 256) = s.rst.areas.strata.seq (s.rst.strataPos / 256))
            ∧ (torn ≠ .blank → ring.seq (s.rst.strataPos / 256) =
                some ((s.rst.areas.strata.seq (s.rst.strataPos / 256)).getD (s.rst.areas.strata.greatest + 1)))
        | .job r =>
          s.rst.jobsPos < 64 → ∃ ring, t.rst.areas = { s.rst.areas with jobs := ring }
            ∧ (∀ i, i ≠ s.rst.jobsPos → ring.get i = s.rst.areas.jobs.get i)
            ∧ ring.get s.rst.jobsPos =
                (match torn with
                 | .blank => s.rst.areas.jobs.get s.rst.jobsPos
                 | .damaged => some (.written r 2)
                 | .written => some (.written r 0))
            ∧ (∀ b, b ≠ s.rst.jobsPos / 16 → ring.seq b = s.rst.areas.jobs.seq b)
            ∧ (torn = .blank → ring.seq (s.rst.jobsPos / 16) = s.rst.areas.jobs.seq (s.rst.jobsPos / 16))
            ∧ (torn ≠ .blank → ring.seq (s.rst.jobsPos / 16) =
                some ((s.rst.areas.jobs.seq (s.rst.jobsPos / 16)).getD (s.rst.areas.jobs.greatest + 1)))
        | .settings img =>
          let x : Option (Slot Settings) := match torn with
            | .blank => none
            | .damaged => some (.written img 2)
            | .written => some (.written img 0)
          t.rst.areas = { s.rst.areas with
            settings :=
              if e.failures = 0 then ⟨x, s.rst.areas.settings.slot1⟩ else ⟨s.rst.areas.settings.slot0, x⟩ }
        | .rods items =>
          let x : Option (Slot (List RodItem)) := match torn with
            | .blank => none
            | .damaged => some (.written items 2)
            | .written => some (.written items 0)
          t.rst.areas = { s.rst.areas with
            rods := if e.failures = 0 then ⟨x, s.rst.areas.rods.slot1⟩ else ⟨s.rst.areas.rods.slot0, x⟩ })
    ∧ ∀ c : Instr,
        match c with
        | .coldStart _ _ _ | .powerLoss _ | .pinLevelChange _ _ _ => True
        | _ => exec c t = .next t)
  ∧ ∀ (st : Straps) (torn : TornWrite) (decay : List SlotDecay) (s : State),
    ∃ t, exec (.coldStart st torn decay) s = .next t
      ∧ (∀ u, exec (.powerLoss torn) s = .next u → t.rst.areas = decay.foldl Areas.decay u.rst.areas)
      ∧ (match t.rst.areas.settings.image with
         | some (x, 0) => t.rst.loadSettings = .clean ∧ t.rst.unconfigured = false ∧ t.settings = x
         | some (x, 1) => t.rst.loadSettings = .corrected ∧ t.rst.unconfigured = false ∧ t.settings = x
         | some (_, _ + 2) =>
           t.rst.loadSettings = .failedCheck ∧ t.rst.unconfigured = true ∧ t.settings = Settings.dflt
         | none => t.rst.loadSettings = .none ∧ t.rst.unconfigured = true ∧ t.settings = Settings.dflt)
      ∧ (let loaded (items : List RodItem) : List Rod := items.map fun x =>
           { id := x.id, cls := x.cls, len := x.len, runs := x.runs
             state := if x.mark = some .laidDown then .laidDown else if x.mark = some .lost then .lost else .rack }
         match t.rst.areas.rods.image with
         | some (x, 0) => t.rst.loadRods = .clean ∧ t.str.rods = loaded x
         | some (x, 1) => t.rst.loadRods = .corrected ∧ t.str.rods = loaded x
         | some (_, _ + 2) => t.rst.loadRods = .failedCheck ∧ t.str.rods = []
         | none => t.rst.loadRods = .none ∧ t.str.rods = [])
      ∧ ((∀ b, t.rst.areas.strata.seq b = none) → t.rst.strataPos = 0)
      ∧ ((∀ b, t.rst.areas.jobs.seq b = none) → t.rst.jobsPos = 0)
      ∧ (RingsOk s →
          (∀ b q i, t.rst.areas.strata.seq b = some q →
            (∀ b' q', b' ≠ b → t.rst.areas.strata.seq b' = some q' → q' < q) →
            i / 256 = b → t.rst.areas.strata.get i ≠ none →
            (∀ j, i < j → j / 256 = b → t.rst.areas.strata.get j = none) →
            t.rst.strataPos = if (i + 1) / 256 = b then i + 1 else (b + 1) % 32 * 256)
          ∧ ∀ b q i, t.rst.areas.jobs.seq b = some q →
            (∀ b' q', b' ≠ b → t.rst.areas.jobs.seq b' = some q' → q' < q) →
            i / 16 = b → t.rst.areas.jobs.get i ≠ none →
            (∀ j, i < j → j / 16 = b → t.rst.areas.jobs.get j = none) →
            t.rst.jobsPos = if (i + 1) / 16 = b then i + 1 else (b + 1) % 4 * 16)
      ∧ t.rst.queue = [] ∧ t.rst.readList = [] ∧ t.rst.ctl = .ready ∧ t.rawValue .storeFailed = false
      ∧ t.rst.protect = none ∧ t.rst.voidCount = 0 ∧ t.rst.marks = ⟨false, false, false, false⟩
      ∧ t.power = .on ∧ t.loaded = false ∧ t.liu.speed = st.speed
      ∧ ∀ ln, (t.link ln).strapped = st.role ln ∧ (t.link ln).rx = .hunting ∧ (t.link ln).state = .active
          ∧ (t.link ln).violation = none ∧ t.outstanding ln = false ∧ (t.link ln).replies = []
          ∧ (t.link ln).notices = [] ∧ (t.link ln).sending = none ∧ (t.link ln).latchWhileMasked = false
          ∧ (t.link ln).owed = false ∧ (t.link ln).frameErrors = 0 ∧ (t.link ln).lost = 0
          ∧ (t.link ln).attention = false
          ∧ ∀ c, (t.link ln).latch c = none ∧ (t.link ln).masked c = true

/-- The effective roles (R172): a link has its strapped role unless an earlier link straps it, and then OBSERVER; so no two
links share a role other than OBSERVER. -/
def Obligations.EffectiveRoles : Prop :=
  ∀ (st : Straps) (torn : TornWrite) (decay : List SlotDecay) (s : State),
    ∃ t, exec (.coldStart st torn decay) s = .next t
      ∧ (∀ ln, (∃ earlier : Link, earlier.code < ln.code ∧ st.role earlier = st.role ln) →
          (t.link ln).effective = .observer)
      ∧ (∀ ln, (∀ earlier : Link, earlier.code < ln.code → st.role earlier ≠ st.role ln) →
          (t.link ln).effective = st.role ln)
      ∧ ∀ ln ln' : Link, ln ≠ ln' → (t.link ln).effective = (t.link ln').effective → (t.link ln).effective = .observer

/-! ### Frames and request taking -/

/-- The bytes of a request's frame (R186), arriving one after another on a hunting receiver, do what the request command does
(R170, R173; widths by entry 25, on and off by entry 51). -/
def Obligations.FrameBytesDeliverTheRequest : Prop :=
  ∀ (i : Instr) (ln : Link) (tag : Nat) (k : Kind) (body : List Byte) (s : State),
    WellFormed i = true → encodeRequest i = some (ln, tag, k, body) → s.Ready → (s.link ln).rx = .hunting →
      deliver ln (frameOf k.number tag body) s = exec i s

/-- Every operand of a well-formed request, at every value its field admits, is read back from the body that carries it
(R186, R187, R189; widths by entry 25, on and off by entry 51). -/
def Obligations.DecodeReadsBackEncode : Prop :=
  ∀ (i : Instr) (ln : Link) (tag : Nat) (k : Kind) (body : List Byte),
    WellFormed i = true → encodeRequest i = some (ln, tag, k, body) → decodeRequest ln tag k body = i

/-- The check value the spec gives for the CRC-8 of R170. -/
def Obligations.CheckByteOfTheNineDigits : Prop := crc8 [49, 50, 51, 52, 53, 54, 55, 56, 57] = 244

/-- The taking of a request (R173, with R171's and R174's full reply list): the first case that holds decides.
A request's firings come before its reply, the model's choice (entry 17), and a Link Reset completed while the reply list is
full is discarded too (entry 50). -/
def Obligations.RequestTaking : Prop :=
  (∀ (i : Instr) (ln : Link) (tag : Nat) (k : Kind) (body : List Byte) (s : State),
    encodeRequest i = some (ln, tag, k, body) → s.Ready →
      exec i s = .next
        (if s.repliesFull ln then s.discardFrame ln .overrun
         else if k = .linkReset then (owner i s).1.answer ln k.number tag (owner i s).2
         else if s.outstanding ln then s.sayOn ln k.number tag .linkBusy
         else if (s.link ln).state = .locked ∧ k ≠ .linkStatus ∧ k ≠ .clearLock then s.sayOn ln k.number tag .locked
         else if permits (s.link ln).effective k = false then
           (s.modLink ln (fun l => { l with state := .locked, violation := some k })).sayOn ln k.number tag .roleViolation
         else (owner i s).1.answer ln k.number tag (owner i s).2))
    ∧ (∀ (ln : Link) (tag kind : Nat) (s : State), kind = 0 ∨ 63 < kind → s.Ready → s.repliesFull ln = false →
        exec (.unknownKind ln tag kind) s =
          .next (s.sayOn ln kind tag (if s.outstanding ln then .linkBusy else .unknownKind)))
    ∧ (∀ (ln : Link) (tag : Nat) (k : Kind) (body : List Byte) (s : State), CanTake s ln k → k ≠ .linkReset →
        body.length ≠ bodyLength k → s.takeFrame ln k.number tag body = s.sayOn ln k.number tag .badLength)
    ∧ ∀ (ln : Link) (tag : Nat) (s : State), CanTake s ln .clearLock →
        exec (.clearLock ln tag) s = .next ((s.modLink ln (fun l => { l with state := .active })).sayOn ln 61 tag .ok)

/-! ### Rods and the string -/

/-- Set Rod Class and Register Rod: their checks in order, their effect and their reply (R1, R3, R155).
That UNCONFIGURED fires before the reply is the model's choice (entry 17). -/
def Obligations.RodClassesAndRegistration : Prop :=
  (∀ (ln : Link) (tag cls : Nat) (defined : Bool) (thread cap torque : Nat) (s : State), CanTake s ln .setRodClass →
    exec (.setRodClass ln tag cls defined thread cap torque) s = .next
      (if cls < 1 ∨ 4 < cls ∨ (defined = true ∧ (thread < 1 ∨ 15 < thread)) then s.sayOn ln 1 tag .badValue
       else if (s.str.rods.any fun r => r.cls == cls && (r.state == .string || r.state == .handling)) = true then
         s.sayOn ln 1 tag .wrongState
       else if defined = true then
         let c : RodClass := { thread, cap := max 500 (min cap 60000), torque := max 100 (min torque 30000) }
         let t : State := { s with str := { s.str with classes := s.str.classes.setIfInBounds (cls - 1) (some c) } }
         (t.mark fun m => { m with rodClass := true }).sayOn ln 1 tag
           (if c.cap = cap ∧ c.torque = torque then .ok else .clamped)
       else
         ({ s with str := { s.str with classes := s.str.classes.setIfInBounds (cls - 1) none } } : State).sayOn ln 1 tag
           .ok))
  ∧ ∀ (ln : Link) (tag rod cls len : Nat) (s : State), CanTake s ln .registerRod →
    exec (.registerRod ln tag rod cls len) s = .next
      (if rod < 1 ∨ 65534 < rod ∨ cls < 1 ∨ 4 < cls ∨ s.str.classes[cls - 1]?.join = none then s.sayOn ln 2 tag .badValue
       else if (s.str.rods.any fun r => r.id == rod) = true then s.sayOn ln 2 tag .duplicate
       else if 320 ≤ s.str.rods.length then s.sayOn ln 2 tag .tableFull
       else
         let l := max 1000 (min len 12000)
         ({ s with
            str := { s.str with
              rods := insertRising (·.id) { id := rod, cls, len := l, runs := 0, state := .rack } s.str.rods } }
            : State).sayOn ln 2 tag (if l = len then .ok else .clamped))

/-- Lay Down Rod, Restore Rod and Retire Rod (R4, R5): a rod keeps its class, length and runs, and no other rod changes. -/
def Obligations.RodRegistryMoves : Prop :=
  ∀ (ln : Link) (tag rod : Nat) (s : State),
    (CanTake s ln .layDownRod →
      exec (.layDownRod ln tag rod) s = .next
        (match s.str.rods.find? (fun r => r.id == rod) with
         | none => s.sayOn ln 3 tag .notFound
         | some r =>
           if r.state = .rack then
             ({ s with str := { s.str with
                  rods := s.str.rods.map fun x => if x.id = rod then { x with state := .laidDown } else x } }
                : State).sayOn ln 3 tag .ok
           else s.sayOn ln 3 tag .notInRack))
    ∧ (CanTake s ln .restoreRod →
      exec (.restoreRod ln tag rod) s = .next
        (match s.str.rods.find? (fun r => r.id == rod) with
         | none => s.sayOn ln 4 tag .notFound
         | some r =>
           if r.state = .laidDown then
             ({ s with str := { s.str with
                  rods := s.str.rods.map fun x => if x.id = rod then { x with state := .rack } else x } }
                : State).sayOn ln 4 tag .ok
           else s.sayOn ln 4 tag .wrongState))
    ∧ (CanTake s ln .retireRod →
      exec (.retireRod ln tag rod) s = .next
        (match s.str.rods.find? (fun r => r.id == rod) with
         | none => s.sayOn ln 5 tag .notFound
         | some r =>
           if r.state = .laidDown ∨ r.state = .lost then
             ({ s with str := { s.str with rods := s.str.rods.filter fun x => x.id != rod } } : State).sayOn ln 5 tag .ok
           else s.sayOn ln 5 tag .wrongState))

/-- Save Rods and Save Settings (R6, R143), the offers of R142, and the taking of a head (R144, R145): with the controller
FAILED nothing is queued; a queued image of the kind, not the taken head, gives way in its place; else an entry joins while
fewer than 12 wait. A READY controller takes its head: it writes a BLANK target, else erases its block first; a STRATA block
at or past the protect mark drops the entry instead, and the departure is handed on. Before the reply of a save its image is
offered and a READY controller takes it: the order is entry 18. -/
def Obligations.OffersAndHeads : Prop :=
  (∀ (ln : Link) (tag : Nat) (s : State),
    let answered (kind : Nat) (b : EntryBody) : State :=
      (({ s with rst := (s.rst.offer b).1 } : State).takeHead).sayOn ln kind tag
        (match (s.rst.offer b).2 with
         | .accepted => .ok
         | .full => .queueFull
         | .failed => .storeFailed)
    (CanTake s ln .saveRods →
      exec (.saveRods ln tag) s = .next (answered 6 (.rods (s.str.rods.map fun r =>
        { id := r.id, cls := r.cls, len := r.len, runs := r.runs
          mark :=
            if r.state = .laidDown then some .laidDown else if r.state = .lost then some .lost else none }))))
    ∧ (CanTake s ln .saveSettings → s.rst.unconfigured = true →
        exec (.saveSettings ln tag) s = .next (s.sayOn ln 51 tag .unconfigured))
    ∧ (CanTake s ln .saveSettings → s.rst.unconfigured = false →
        exec (.saveSettings ln tag) s = .next (answered 51 (.settings s.settings))))
  -- offers
  ∧ (∀ (u : Store) (b : EntryBody),
    let gives (e : Entry) : Bool := match e.body, b with
      | .settings _, .settings _ => true
      | .rods _, .rods _ => true
      | _, _ => false
    let queued (q : List Entry) : List Entry := if u.ctl = .ready then q else q.drop 1
    (u.ctl = .failed → u.offer b = (u, .failed))
    ∧ (∀ before e after, u.ctl ≠ .failed → u.queue = before ++ e :: after → gives e = true →
        (u.ctl ≠ .ready → before ≠ []) → (∀ x ∈ queued before, gives x = false) →
        u.offer b = ({ u with queue := before ++ { e with body := b } :: after }, .accepted))
    ∧ (u.ctl ≠ .failed → (∀ x ∈ queued u.queue, gives x = false) →
        (u.queue.length < 12 → u.offer b = ({ u with queue := u.queue ++ [⟨b, 0⟩] }, .accepted))
        ∧ (12 ≤ u.queue.length → u.offer b = (u, .full))))
  -- where work on an entry begins
  ∧ (∀ (u : Store) (e : Entry),
    (∀ r, e.body = .strata r →
      (u.areas.strata.get u.strataPos = none → u.startOf e = .write)
      ∧ (u.areas.strata.get u.strataPos ≠ none →
          ((∃ mark q, u.protect = some mark ∧ u.areas.strata.seq (u.strataPos / 256) = some q ∧ mark ≤ q) →
            u.startOf e = .blocked)
          ∧ ((∀ mark q, u.protect = some mark → u.areas.strata.seq (u.strataPos / 256) = some q → q < mark) →
              u.startOf e = .erase .strata (u.strataPos / 256))))
    ∧ (∀ r, e.body = .job r →
        u.startOf e = if u.areas.jobs.get u.jobsPos = none then .write else .erase .jobs (u.jobsPos / 16))
    ∧ (∀ x, e.body = .settings x →
        u.startOf e =
          if u.areas.settings.slot1 = none ∧ (e.failures = 0 → u.areas.settings.slot0 = none) then .write
          else .erase .settings 0)
    ∧ ∀ x, e.body = .rods x →
        u.startOf e =
          if u.areas.rods.slot1 = none ∧ (e.failures = 0 → u.areas.rods.slot0 = none) then .write else .erase .rods 0)
  -- the head
  ∧ ∀ s : State,
    (s.rst.ctl ≠ .ready ∨ s.rst.queue = [] → s.takeHead = s)
    ∧ ∀ e rest, s.rst.ctl = .ready → s.rst.queue = e :: rest →
        (s.rst.startOf e = .write → s.takeHead = { s with rst := { s.rst with ctl := .writing } })
        ∧ (∀ area block, s.rst.startOf e = .erase area block →
            ∃ areas, s.takeHead =
                { s with rst := { s.rst with
                    areas, ctl := .erasing { area, block, run := 0, since := s.now, suspensions := 0 } } }
              ∧ areas.settings = (if area = .settings then ⟨none, none⟩ else s.rst.areas.settings)
              ∧ areas.rods = (if area = .rods then ⟨none, none⟩ else s.rst.areas.rods)
              ∧ (area ≠ .strata → areas.strata = s.rst.areas.strata)
              ∧ (area = .strata → ∀ i, areas.strata.get i = if i / 256 = block then none else s.rst.areas.strata.get i)
              ∧ (area = .strata → ∀ b, areas.strata.seq b = if b = block then none else s.rst.areas.strata.seq b)
              ∧ (area ≠ .jobs → areas.jobs = s.rst.areas.jobs)
              ∧ (area = .jobs → ∀ i, areas.jobs.get i = if i / 16 = block then none else s.rst.areas.jobs.get i)
              ∧ (area = .jobs → ∀ b, areas.jobs.seq b = if b = block then none else s.rst.areas.jobs.seq b))
        ∧ (∀ r, e.body = .strata r → s.rst.startOf e = .blocked →
            s.takeHead =
              ((({ s with rst := { s.rst with queue := rest } } : State).fire .commitDropped
                (.droppedInterval r.interval)).handOn).takeHead)

/-- Set BHA and Declare String (R7, R16, R18, R189): checks in order, the record and list they leave, and d after a declared
string with depth status RELIABLE, in range: L − h, or 0, and no deeper than H without a BHA.
A rise of H during a job is reported (R115), then taken by the strata log.
More than 80 runs are refused with BAD_VALUE (entry 29), and firings come before the reply (entry 17): both are the model's
choice. -/
def Obligations.DeclaringTheString : Prop :=
  (∀ (ln : Link) (tag len cap thread : Nat) (s : State), CanTake s ln .setBha →
    exec (.setBha ln tag len cap thread) s = .next
      (if s.str.list ≠ [] then s.sayOn ln 7 tag .stringNotEmpty
       else if s.cxu.state ≠ .free then s.sayOn ln 7 tag .busy
       else if len ≠ 0 ∧ (thread < 1 ∨ 15 < thread) then s.sayOn ln 7 tag .badValue
       else
         let b : Bha := { len := max 1000 (min len 60000), cap := max 500 (min cap 120000), thread }
         (({ s with str := { s.str with bha := if len = 0 then none else some b } } : State).rebase).sayOn ln 7 tag
           (if len ≠ 0 ∧ ¬(b.len = len ∧ b.cap = cap) then .clamped else .ok)))
  ∧ (∀ (ln : Link) (tag len cap thread : Nat) (runs : List (Nat × Nat)) (s : State), CanTake s ln .declareString →
    exec (.declareString ln tag len cap thread runs) s = .next
      (let ids := expandRuns runs
       let b : Bha := { len := max 1000 (min len 60000), cap := max 500 (min cap 120000), thread }
       if s.jmu.state = .opened then s.sayOn ln 10 tag .jobOpen
       else if s.jmu.state ≠ .noJob then s.sayOn ln 10 tag .closing
       else if s.cxu.state ≠ .free then s.sayOn ln 10 tag .busy
       else if s.str.list ≠ [] then s.sayOn ln 10 tag .stringNotEmpty
       else if s.str.depth ≠ .reliable then s.sayOn ln 10 tag .depthUnreliable
       else if runsOk runs = false ∨ hasTwice ids = true ∨ (len ≠ 0 ∧ (thread < 1 ∨ 15 < thread)) then
         s.sayOn ln 10 tag .badValue
       else if len = 0 ∧ ids ≠ [] then s.sayOn ln 10 tag .noBha
       else if (ids.all fun id => (findRod s.str.rods id).map (·.state) == some .rack) = false then
         s.sayOn ln 10 tag .notInRack
       else if threadsMatch s.str thread ids = false then s.sayOn ln 10 tag .threadMismatch
       else
         (({ s with
             str := { s.str with
               bha := if len = 0 then none else some b
               list := ids
               rods := s.str.rods.map fun r => if ids.contains r.id then { r with state := .string } else r } }
             : State).rebase).sayOn ln 10 tag (if len ≠ 0 ∧ ¬(b.len = len ∧ b.cap = cap) then .clamped else .ok)))
  ∧ ∀ s : State, (s.str.depth = .reliable → s.str.length - s.height ≤ maxDepth) →
      let d :=
        if s.str.depth = .faulted then s.str.d
        else if s.str.bha = none then min (s.str.length - s.height) s.str.hole
        else s.str.length - s.height
      s.rebase.str.d = d ∧ s.rebase.str.hole = max s.str.hole d
      ∧ (d ≤ s.str.hole ∨ s.jmu.state = .noJob →
          s.rebase = { s with str := { s.str with d, hole := max s.str.hole d } })
      ∧ (s.str.hole < d → s.jmu.state ≠ .noJob →
          s.rebase =
            ({ s with
                str := { s.str with d, hole := d }
                jmu := { s.jmu with
                  lastAdvance := some s.tick, pendingMm := s.jmu.pendingMm + (d - s.str.hole) } } : State).strataAdvance
              (d - s.str.hole) d)

/-- Declare Parted (R19, R16, R120): the bottom k rods are LOST, the BHA absent, the lost equipment counted to an open job,
and d lowered by the length lost, H as it was. -/
def Obligations.PartingTheString : Prop :=
  ∀ (ln : Link) (tag k : Nat) (s : State), CanTake s ln .declareParted →
    (s.cxu.state ≠ .free → exec (.declareParted ln tag k) s = .next (s.sayOn ln 11 tag .busy))
    ∧ (s.cxu.state = .free → s.str.bha = none → exec (.declareParted ln tag k) s = .next (s.sayOn ln 11 tag .noBha))
    ∧ ∀ b, s.cxu.state = .free → s.str.bha = some b →
        (s.str.list.length < k → exec (.declareParted ln tag k) s = .next (s.sayOn ln 11 tag .badValue))
        ∧ (k ≤ s.str.list.length →
            let lost := s.str.list.take k
            ∃ jmu, exec (.declareParted ln tag k) s = .next
                (({ s with
                    jmu
                    str := { s.str with
                      bha := none
                      list := s.str.list.drop k
                      rods := s.str.rods.map fun r => if lost.contains r.id then { r with state := .lost } else r
                      d := s.str.d - (b.len + (lost.map (rodLen s.str)).sum) } } : State).sayOn ln 11 tag .ok)
              ∧ (s.jmu.state ≠ .opened → jmu = s.jmu)
              ∧ (s.jmu.state = .opened →
                  jmu = { s.jmu with lostBha := min 65535 (s.jmu.lostBha + 1), lostRods := jmu.lostRods }
                  ∧ ∀ cls, (h : cls < 4) →
                      jmu.lostRods[cls] = min 65535 (s.jmu.lostRods[cls]
                        + (lost.filter fun id =>
                            ((findRod (s.str.rods.map fun r => if lost.contains r.id then { r with state := .lost } else r)
                              id).map (·.cls)) == some (cls + 1)).length)))

/-- Set Depth Limits (R9): both values brought in, and block height does not move. -/
def Obligations.DepthLimitsKeepBlockHeight : Prop :=
  ∀ (ln : Link) (tag cpm tol : Nat) (s : State), CanTake s ln .setDepthLimits →
    ∃ offset : Int, exec (.setDepthLimits ln tag cpm tol) s = .next
        (({ s with str := { s.str with cpm := max 200 (min cpm 40000), tol := max 100 (min tol 2000), offset } }
          : State).sayOn ln 8 tag
            (if 200 ≤ cpm ∧ cpm ≤ 40000 ∧ 100 ≤ tol ∧ tol ≤ 2000 then .ok else .clamped))
      ∧ ({ s with str := { s.str with cpm := max 200 (min cpm 40000), tol := max 100 (min tol 2000), offset } }
          : State).heightU = s.heightU

/-- Set Block Height (R15): h is the given height brought in, depth status RELIABLE, d recomputed and limited without a BHA;
with one, H takes a deeper d, in either slips state, and the advance is reported (R115), then taken by the strata log. The
computed value must lie in range; past it entry 13 holds. Firings come before the reply, the model's choice (entry 17). -/
def Obligations.SettingBlockHeight : Prop :=
  ∀ (ln : Link) (tag height : Nat) (s : State), CanTake s ln .setBlockHeight →
    s.str.length - min height 30000 ≤ maxDepth →
    let c := s.str.length - min height 30000
    let d := if s.str.bha = none then min c s.str.hole else c
    ∃ t : State, exec (.setBlockHeight ln tag height) s =
        .next (t.sayOn ln 9 tag (if height ≤ 30000 then .ok else .clamped))
      ∧ (let u : State := { s with str := { s.str with offset := t.str.offset, depth := .reliable, d } }
         let v := if s.str.depth = .faulted then u.fire .depthFault (.raw false) else u
         (d ≤ s.str.hole → t = v)
         ∧ (s.str.hole < d →
             t = ({ v with
                 str := { v.str with hole := d }
                 jmu := { s.jmu with
                   lastAdvance := some s.tick
                   pendingMm :=
                     if s.jmu.state = .noJob then s.jmu.pendingMm else s.jmu.pendingMm + (d - s.str.hole) } }
               : State).strataAdvance (d - s.str.hole) d))
      ∧ t.height = min height 30000 ∧ t.heightU = (min height 30000 : Nat) ∧ t.str.depth = .reliable
      ∧ t.str.d = d ∧ t.str.hole = (if s.str.bha = none then s.str.hole else max s.str.hole d)
      ∧ t.str.slips = s.str.slips ∧ t.str.list = s.str.list ∧ t.str.rods = s.str.rods ∧ t.str.bha = s.str.bha
      ∧ t.str.classes = s.str.classes ∧ t.str.cpm = s.str.cpm ∧ t.str.tol = s.str.tol
      ∧ t.cxu = s.cxu ∧ t.ccu = s.ccu ∧ t.flu = s.flu ∧ t.tick = s.tick

/-! ### Connections -/

/-- Pick (R23, R24): the six checks in order, and the rod in HANDLING. -/
def Obligations.Picking : Prop :=
  ∀ (ln : Link) (tag rod : Nat) (s : State), CanTake s ln .pick →
    exec (.pick ln tag rod) s = .next
      (if s.cxu.state ≠ .free then s.sayOn ln 16 tag .busy
       else if s.str.bha = none then s.sayOn ln 16 tag .noBha
       else if s.str.slips = .released then s.sayOn ln 16 tag .slipsOut
       else
         match s.str.rods.find? (fun r => r.id == rod) with
         | none => s.sayOn ln 16 tag .notFound
         | some r =>
           if r.state ≠ .rack then s.sayOn ln 16 tag .notInRack
           else if 300 ≤ s.str.list.length then s.sayOn ln 16 tag .stringFull
           else if rodThread s.str rod = none ∨ rodThread s.str rod ≠ s.str.topThread then
             s.sayOn ln 16 tag .threadMismatch
           else
             ({ s with
                str := { s.str with
                  rods := s.str.rods.map fun x => if x.id = rod then { x with state := .handling } else x }
                cxu := { s.cxu with state := .addPicked, handling := some rod } } : State).sayOn ln 16 tag .ok)

/-- Stab and Made Up (R25, R26, R31): a torque at or above the class's minimum appends the rod at the top of the string, its
runs raised and held, d as it was, and writes the completion record. -/
def Obligations.StabAndMadeUp : Prop :=
  (∀ (ln : Link) (tag : Nat) (s : State), CanTake s ln .stab →
    exec (.stab ln tag) s = .next
      (if s.cxu.state = .addPicked then
         ({ s with cxu := { s.cxu with state := .addStabbed } } : State).sayOn ln 17 tag .ok
       else s.sayOn ln 17 tag .wrongState))
  ∧ ∀ (ln : Link) (tag torque : Nat) (s : State), CanTake s ln .madeUp →
    (s.cxu.state ≠ .addStabbed → exec (.madeUp ln tag torque) s = .next (s.sayOn ln 18 tag .wrongState))
    ∧ ∀ id r c, s.cxu.state = .addStabbed → s.cxu.handling = some id → s.str.rods.find? (fun r => r.id == id) = some r →
        classEntry s.str.classes r.cls = some c → s.str.slips = .set →
        exec (.madeUp ln tag torque) s = .next
          (if torque < c.torque then s.sayOn ln 18 tag .torqueLow
           else
             ({ s with
                str := { s.str with
                  list := s.str.list ++ [id]
                  rods := s.str.rods.map fun x =>
                    if x.id = id then { x with state := .string, runs := min 65535 (x.runs + 1) } else x }
                cxu := { state := .free, handling := none
                         last := some { kind := .madeUp, rod := some id, torque := some torque, resolution := none
                                        time := s.tick } } } : State).sayOn ln 18 tag .ok)

/-- Abort Add (R27). -/
def Obligations.AbortingAnAdd : Prop :=
  ∀ (ln : Link) (tag : Nat) (s : State), CanTake s ln .abortAdd →
    (s.cxu.state ≠ .addPicked → s.cxu.state ≠ .addStabbed →
      exec (.abortAdd ln tag) s = .next (s.sayOn ln 19 tag .wrongState))
    ∧ ∀ id, (s.cxu.state = .addPicked ∨ s.cxu.state = .addStabbed) → s.cxu.handling = some id →
        exec (.abortAdd ln tag) s = .next
          (({ s with
              str := { s.str with rods := s.str.rods.map fun x => if x.id = id then { x with state := .rack } else x }
              cxu := { s.cxu with state := .free, handling := none } } : State).sayOn ln 19 tag .ok)

/-- Break and Broken (R23, R28, R29, R32): the checks in order; the permit is withdrawn at Break; the top rod comes into
HANDLING at Broken, its runs, d and the offset as they were.
That PUMP_PERMIT fires before the reply is the model's choice (entry 17). -/
def Obligations.BreakAndBroken : Prop :=
  (∀ (ln : Link) (tag : Nat) (s : State), CanTake s ln .breakOut →
    exec (.breakOut ln tag) s = .next
      (if s.cxu.state ≠ .free then s.sayOn ln 20 tag .busy
       else if s.str.slips = .released then s.sayOn ln 20 tag .slipsOut
       else if s.str.list = [] then s.sayOn ln 20 tag .wrongState
       else if s.ccu.state ≠ .idle then s.sayOn ln 20 tag .pumpsOn
       else
         (({ s with cxu := { s.cxu with state := .breakRequested } } : State).fire .pumpPermit (.raw false)).sayOn ln 20
           tag .ok))
  ∧ ∀ (ln : Link) (tag : Nat) (s : State), CanTake s ln .broken →
    (s.cxu.state ≠ .breakRequested → exec (.broken ln tag) s = .next (s.sayOn ln 21 tag .wrongState))
    ∧ (s.cxu.state = .breakRequested → s.str.slips = .released →
        exec (.broken ln tag) s = .next (s.sayOn ln 21 tag .slipsOut))
    ∧ ∀ below id, s.cxu.state = .breakRequested → s.str.slips = .set → s.str.list = below ++ [id] →
        exec (.broken ln tag) s = .next
          (({ s with
              str := { s.str with
                list := below
                rods := s.str.rods.map fun x => if x.id = id then { x with state := .handling } else x }
              cxu := { s.cxu with state := .breakOpen, handling := some id } } : State).sayOn ln 21 tag .ok)

/-- Racked and Laid Down (R30, R31, R32): the rod is put away, the permit asserted again, the completion written.
That PUMP_PERMIT fires before the reply is the model's choice (entry 17). -/
def Obligations.RackedAndLaidDown : Prop :=
  ∀ (ln : Link) (tag : Nat) (s : State),
    (CanTake s ln .racked → s.cxu.state ≠ .breakOpen → exec (.racked ln tag) s = .next (s.sayOn ln 22 tag .wrongState))
    ∧ (CanTake s ln .laidDown → s.cxu.state ≠ .breakOpen →
        exec (.laidDown ln tag) s = .next (s.sayOn ln 23 tag .wrongState))
    ∧ ∀ id, s.cxu.state = .breakOpen → s.cxu.handling = some id →
        let away (st : RodState) (kind : CompletionKind) : State :=
          let t : State := { s with
            str := { s.str with rods := s.str.rods.map fun x => if x.id = id then { x with state := st } else x }
            cxu := { state := .free, handling := none
                     last := some { kind, rod := some id, torque := none, resolution := none, time := s.tick } } }
          t.fire .pumpPermit (.raw true)
        (CanTake s ln .racked → exec (.racked ln tag) s = .next ((away .rack .racked).sayOn ln 22 tag .ok))
        ∧ (CanTake s ln .laidDown → exec (.laidDown ln tag) s = .next ((away .laidDown .laidDown).sayOn ln 23 tag .ok))

/-- Acknowledge Fault (R36 to R38): the resolutions each origin allows, in codes 0 KEEP, 1 RETURN, 2 LAY_DOWN, 3 RESTORE, what
each does to the rod, the string and the offset, the firings, and the completion record.
That the firings come before the reply is the model's choice (entry 17). -/
def Obligations.ResolvingAFault : Prop :=
  ∀ (ln : Link) (tag code : Nat) (s : State), CanTake s ln .acknowledgeFault →
    (s.rawValue .connectionFault = false →
      exec (.acknowledgeFault ln tag code) s = .next (s.sayOn ln 24 tag .wrongState))
    ∧ ∀ f : FaultRec, s.cxu.state = .fault f →
        let allowed : Bool := match f.origin with
          | .addPicked | .addStabbed => code == 0 || code == 1 || code == 2
          | .breakRequested => code == 3
          | .breakOpen => code == 1 || code == 2
        (allowed = false → exec (.acknowledgeFault ln tag code) s = .next (s.sayOn ln 24 tag .badValue))
        ∧ (allowed = true → HandlingOk s →
            ∃ str r, exec (.acknowledgeFault ln tag code) s = .next
                (let t : State := { s with
                  str
                  cxu := { state := .free, handling := none
                           last := some { kind := .resolved, rod := s.cxu.handling, torque := none, resolution := some r
                                          time := s.tick } } }
                 let t := t.fire .connectionFault (.raw false)
                 (if f.origin = .breakRequested ∨ f.origin = .breakOpen then t.fire .pumpPermit (.raw true)
                  else t).sayOn ln 24 tag .ok)
              ∧ r.code = code
              ∧ (code = 3 → str = s.str)
              ∧ ∀ id, s.cxu.handling = some id →
                  (code = 1 → str = { s.str with rods := setRodState s.str.rods id .rack })
                  ∧ (code = 2 → str = { s.str with rods := setRodState s.str.rods id .laidDown })
                  ∧ (code = 0 → str = { s.str with
                      list := s.str.list ++ [id]
                      rods := s.str.rods.map fun x =>
                        if x.id = id then { x with state := .string, runs := min 65535 (x.runs + 1) } else x
                      offset := if s.str.slips = .released then s.str.offset + rodLen s.str id else s.str.offset }))

/-- What faults a connection (R33, R34, R35): a slips RELEASED edge, in either slips state (entry 35), and an accepted stroke,
by the connection state, with the firings of CONNECTION_FAULT and PUMP_INTERLOCK. The handling rod, the last completion and
the string stay as they are. -/
def Obligations.WhatFaultsAConnection : Prop :=
  (∀ s : State,
    s.slipsReleasedEdge.cxu =
      { s.cxu with
        state := match s.cxu.state with
          | .addPicked => .fault ⟨.slipsLost, .addPicked⟩
          | .addStabbed => .fault ⟨.slipsLost, .addStabbed⟩
          | .breakRequested => .fault ⟨.slipsLost, .breakRequested⟩
          | other => other }
    ∧ s.slipsReleasedEdge.str.list = s.str.list ∧ s.slipsReleasedEdge.str.rods = s.str.rods)
  ∧ (∀ (s : State) (from_ : Origin), from_ ≠ .breakOpen →
      s.cxu.state = (match from_ with
        | .addPicked => .addPicked
        | .addStabbed => .addStabbed
        | .breakRequested => .breakRequested
        | .breakOpen => .breakOpen) →
      s.connReleased =
        ({ s with cxu := { s.cxu with state := .fault ⟨.slipsLost, from_⟩ } } : State).fire .connectionFault (.raw true))
  ∧ ∀ (s : State) (p : PumpId),
    (s.connStroke p).cxu =
      { s.cxu with
        state := match s.cxu.state with
          | .breakRequested => .fault ⟨.pumpedOnBreak p, .breakRequested⟩
          | .breakOpen => .fault ⟨.pumpedOnBreak p, .breakOpen⟩
          | other => other }
    ∧ (s.connStroke p).str = s.str ∧ (s.connStroke p).ccu = s.ccu
    ∧ (s.cxu.state = .breakRequested ∨ s.cxu.state = .breakOpen →
        s.connStroke p =
          (({ s with cxu := (s.connStroke p).cxu } : State).fire .connectionFault (.raw true)).fire .pumpInterlock
            (.pump p))
    ∧ ∀ f, s.cxu.state = .fault f → f.origin = .breakRequested ∨ f.origin = .breakOpen →
        s.connStroke p = s.fire .pumpInterlock (.pump p)

/-! ### Reads -/

/-- The reads that are answered at once (R20, R41, R60, R74, R93, R105, R122, R139, R157, R168, R177): each makes one reply,
with the bytes of its layout, and changes nothing but its link's reply list; a position, an id or a rod that is not there is
refused (R20, R93). Beside them the layouts of chapter 12: the offsets of a strata record, a parcel summary and the cuttings
header (R190), of a notice frame (R188), and of the conditions in Link Status (R177, R179: a latch clear 0 or set 1, a mask masked
0 or unmasked 1). Details of other layouts are entries 24 to 27, 48, 51 and 53. -/
def Obligations.ImmediateReads : Prop :=
  (∀ (ln : Link) (tag : Nat) (s : State),
    let answer (k : Nat) (bytes : List Byte) : Host.Outcome State Fault Refusal :=
      .next (s.modLink ln fun l => l.addReply ⟨k, tag, .ok, [bytes]⟩)
    let refused (k : Nat) (st : Status) : Host.Outcome State Fault Refusal := .next (s.sayOn ln k tag st)
    (CanTake s ln .readStringStatus → exec (.readStringStatus ln tag) s = answer 12 (stringStatusBytes s))
    ∧ (∀ pos, CanTake s ln .readStringList → 1 ≤ pos → pos ≤ 300 →
        exec (.readStringList ln tag pos) s =
          answer 13 (num 2 s.str.list.length ++ listOf 60 2 (((s.str.list.drop (pos - 1)).take 60).map (num 2))))
    ∧ (∀ pos, CanTake s ln .readStringList → pos < 1 ∨ 300 < pos →
        exec (.readStringList ln tag pos) s = refused 13 .badValue)
    ∧ (∀ rod r, CanTake s ln .readRod → 1 ≤ rod → rod ≤ 65534 → s.str.rods.find? (fun r => r.id == rod) = some r →
        exec (.readRod ln tag rod) s = answer 14 (rodBytes r))
    ∧ (∀ rod, CanTake s ln .readRod → rod < 1 ∨ 65534 < rod → exec (.readRod ln tag rod) s = refused 14 .badValue)
    ∧ (∀ rod, CanTake s ln .readRod → 1 ≤ rod → rod ≤ 65534 → (∀ r ∈ s.str.rods, r.id ≠ rod) →
        exec (.readRod ln tag rod) s = refused 14 .notFound)
    ∧ (∀ start, CanTake s ln .readRodTable → 1 ≤ start → start ≤ 65534 →
        exec (.readRodTable ln tag start) s =
          answer 15 (listOf 24 9 (((s.str.rods.filter fun r => start ≤ r.id).take 24).map rodBytes)
            ++ num 2 s.str.rods.length))
    ∧ (∀ start, CanTake s ln .readRodTable → start < 1 ∨ 65534 < start →
        exec (.readRodTable ln tag start) s = refused 15 .badValue)
    ∧ (CanTake s ln .readConnectionStatus → exec (.readConnectionStatus ln tag) s = answer 25 (connectionBytes s))
    ∧ (CanTake s ln .readCirculationStatus → exec (.readCirculationStatus ln tag) s = answer 28 (circulationBytes s))
    ∧ (CanTake s ln .readLagGeometry → exec (.readLagGeometry ln tag) s = answer 30 (lagBytes s))
    ∧ (∀ pos, CanTake s ln .readCuttingsQueue → 1 ≤ pos → pos ≤ 32 →
        exec (.readCuttingsQueue ln tag pos) s = answer 33 (cuttingsBytes pos s))
    ∧ (∀ pos, CanTake s ln .readCuttingsQueue → pos < 1 ∨ 32 < pos →
        exec (.readCuttingsQueue ln tag pos) s = refused 33 .badValue)
    ∧ (CanTake s ln .readStrataStatus → exec (.readStrataStatus ln tag) s = answer 38 (strataStatusBytes s))
    ∧ (CanTake s ln .readLithologyTable → exec (.readLithologyTable ln tag) s = answer 39 (lithBytes s.slu.lith))
    ∧ (CanTake s ln .readJobMeters → exec (.readJobMeters ln tag) s = answer 45 (jobMeterBytes s))
    ∧ (CanTake s ln .readTariffs →
        exec (.readTariffs ln tag) s = answer 50 (tariffBytes s.jmu.tariff s.jmu.drillHold s.jmu.tripHold))
    ∧ (CanTake s ln .readStoreStatus → exec (.readStoreStatus ln tag) s = answer 55 (storeStatusBytes s))
    ∧ (CanTake s ln .readLineStatus → exec (.readLineStatus ln tag) s = answer 58 (linesStatusBytes s))
    ∧ (CanTake s ln .linkStatus → exec (.linkStatus ln tag) s = answer 60 (linkStatusBytes ln s)))
  ∧ (∀ r : StrataRec, r.notes.length ≤ 3 →
      let b := strataBytes r
      let at_ (offset n : Nat) := (b.drop offset).take n
      b.length = 34 ∧ at_ 1 2 = num 2 r.job ∧ at_ 3 2 = num 2 r.interval ∧ at_ 5 3 = num 3 r.top ∧ at_ 8 3 = num 3 r.bottom
      ∧ at_ 11 4 = num 4 r.seconds ∧ at_ 15 3 = num 3 (r.rate.getD 0) ∧ at_ 18 1 = num 1 r.worst.code
      ∧ at_ 19 3 = num 3 (r.strike.getD 0) ∧ at_ 22 1 = num 1 (r.lith.getD 0) ∧ at_ 23 1 = num 1 (r.colour.getD 0)
      ∧ at_ 24 1 = num 1 r.rock.code ∧ (∀ st, r.status = some st → at_ 25 1 = num 1 st.code)
      ∧ at_ 26 1 = num 1 r.notes.length ∧ (∀ k n, r.notes[k]? = some n → at_ (27 + k) 1 = num 1 n)
      ∧ at_ 30 4 = num 4 r.closeTime
      ∧ ∀ k, (b[0]?.map fun x => x.getLsbD k) = some ([r.rate.isSome, r.strike.isSome, r.lith.isSome, r.colour.isSome,
          r.status.isSome].getD k false))
  ∧ (∀ p : Parcel,
      let b := parcelBytes p
      let at_ (offset n : Nat) := (b.drop offset).take n
      b.length = 23 ∧ at_ 1 2 = num 2 p.record.interval ∧ at_ 4 6 = num 6 p.raw ∧ at_ 10 6 = num 6 p.eff
      ∧ at_ 16 6 = num 6 (p.windowEnd.getD 0)
      ∧ at_ 3 1 = num 1 (match p.status with
        | .inFlight => 0
        | .due => 1
        | .finalWaiting => 2))
  ∧ (∀ (s : State) (pos : Nat), s.lgu.parcels.length ≤ 32 →
      let b := cuttingsBytes pos s
      let at_ (offset n : Nat) := (b.drop offset).take n
      b.length = 197 ∧ at_ 0 1 = num 1 s.lgu.parcels.length ∧ at_ 1 1 = num 1 s.lgu.nearLevel
      ∧ at_ 2 3 = num 3 s.lgu.sampleWindow ∧ at_ 5 6 = num 6 s.ccu.lift ∧ at_ 11 1 = num 1 s.slu.overflow.length
      ∧ ∀ k p, k < 8 → s.lgu.parcels[pos - 1 + k]? = some p → at_ (13 + 23 * k) 23 = parcelBytes p)
  ∧ (∀ (ln : Link) (s : State),
      let l := s.link ln
      let b := linkStatusBytes ln s
      let entry (c : Cond) : List Byte :=
        [if l.latch c = none then 0 else 1]
          ++ (match l.latch c with
              | some x => x.content.bytes ++ num 4 x.seconds
              | none => List.replicate (c.contentWidth + 4) 0)
          ++ [if l.masked c = true then 0 else 1]
      b.take 3 = presence 3 (l.violation.isSome :: Cond.all.map fun c => (l.latch c).isSome)
      ∧ b.drop 16 =
          [if l.latchWhileMasked = true then 1 else 0, if l.owed = true then 1 else 0]
            ++ (Cond.all.map entry).flatten ++ num 2 l.frameErrors ++ num 2 l.lost
      ∧ ((∀ c x, l.latch c = some x → x.content.bytes.length = c.contentWidth) → b.length = 199))
  ∧ ∀ n : Notice,
      let b := noticeBytes n
      b.length = 14 ∧ b.take 2 = [90, 11] ∧ (b.drop 2).take 2 = num 1 n.cond.number ++ [0]
      ∧ (b.drop 9).take 4 = num 4 n.seconds ∧ b[13]? = some (crc8 ((b.drop 1).take 12))

/-- The store's reads (R106, R149 to R152): an operand out of range is refused; in READY and FAILED the read is served and
answered at once; in WRITING, in ERASE_SUSPENDED and after 8 suspensions it joins the list unanswered; in ERASING before
that the erase is suspended, its time kept and the suspension counted, and the read is in service until the service ends
(entries 4 and 30). What a served read answers and fires is the table of R151 for the slot R152 selects; the slot named for
a wholly BLANK image block is entry 49, and flags that stand for presence in a settings image are entry 53. -/
def Obligations.StoreReads : Prop :=
  (∀ (ln : Link) (tag : Nat) (s : State) (i : Instr) (req : ReadReq),
    CanTake s ln req.kind →
    ((∃ n, n < 8192 ∧ i = .readStrata ln tag n ∧ req = .strata n)
      ∨ (∃ n, 1 ≤ n ∧ n ≤ 65535 ∧ i = .readStrataLatest ln tag n ∧ req = .latest n)
      ∨ (∃ n p, n < 64 ∧ 1 ≤ p ∧ p ≤ 3 ∧ i = .readJob ln tag n p ∧ req = .job n p)
      ∨ (∃ p, 1 ≤ p ∧ p ≤ 9 ∧ i = .readSettingsImage ln tag p ∧ req = .settings p)
      ∨ (∃ n, 1 ≤ n ∧ n ≤ 320 ∧ i = .readRodsImage ln tag n ∧ req = .rods n)) →
    let joined (ctl : Ctl) : State :=
      { s with rst := { s.rst with ctl, readList := s.rst.readList ++ [⟨ln, tag, req⟩] } }
    (s.rst.ctl = .ready ∨ s.rst.ctl = .failed →
      exec i s = .next ((serve req s).1.reply ln ⟨req.kind.number, tag, (serve req s).2.1, [(serve req s).2.2]⟩))
    ∧ (s.rst.ctl = .writing → exec i s = .next (joined s.rst.ctl))
    ∧ (∀ e, s.rst.ctl = .suspended e → exec i s = .next (joined s.rst.ctl))
    ∧ (∀ e, s.rst.ctl = .erasing e →
        exec i s = .next (joined
          (if e.suspensions < 8 then
             .suspended { e with run := e.run + (s.now - e.since), suspensions := e.suspensions + 1 }
           else .erasing e))))
  ∧ (∀ (ln : Link) (tag n p : Nat) (s : State),
    (CanTake s ln .readStrata → 8192 ≤ n → exec (.readStrata ln tag n) s = .next (s.sayOn ln 40 tag .badValue))
    ∧ (CanTake s ln .readStrataLatest → n < 1 ∨ 65535 < n →
        exec (.readStrataLatest ln tag n) s = .next (s.sayOn ln 41 tag .badValue))
    ∧ (CanTake s ln .readJob → 64 ≤ n ∨ p < 1 ∨ 3 < p → exec (.readJob ln tag n p) s = .next (s.sayOn ln 52 tag .badValue))
    ∧ (CanTake s ln .readSettingsImage → p < 1 ∨ 9 < p →
        exec (.readSettingsImage ln tag p) s = .next (s.sayOn ln 53 tag .badValue))
    ∧ (CanTake s ln .readRodsImage → n < 1 ∨ 320 < n →
        exec (.readRodsImage ln tag n) s = .next (s.sayOn ln 54 tag .badValue)))
  ∧ (∀ s : State,
    let gives (o : Status × List Byte × Bool) (area : AreaId) (index : Nat) : State × Status × List Byte :=
      (if o.2.2 = true then s.fire .storeCorrected (.slot area index) else s, o.1, o.2.1)
    (∀ n, serve (.strata n) s = gives (slotOutcome (s.rst.areas.strata.get n) n strataBytes) .strata n)
    ∧ (∀ n p, serve (.job n p) s = gives (slotOutcome (s.rst.areas.jobs.get n) n fun r => jobPartBytes r p) .jobs n)
    ∧ (∀ p, let a := s.rst.areas.settings
        let index := match a.slot0, a.slot1 with
          | some (.written _ _), _ => 0
          | _, some (.written _ _) => 1
          | some .void, _ => 1
          | none, _ => 0
        serve (.settings p) s =
          gives (slotOutcome (a.image.map fun x => Slot.written x.1 x.2) index fun x => settingsPartBytes x p) .settings
            index)
    ∧ ∀ n, let a := s.rst.areas.rods
        let index := match a.slot0, a.slot1 with
          | some (.written _ _), _ => 0
          | _, some (.written _ _) => 1
          | some .void, _ => 1
          | none, _ => 0
        serve (.rods n) s =
          gives (slotOutcome (a.image.map fun x => Slot.written x.1 x.2) index fun items =>
            listOf 24 10 (((items.drop (n - 1)).take 24).map rodItemBytes) ++ num 2 items.length) .rods index)
  ∧ ∀ (s : State) (job : Nat), RingsOk s → s.rst.strataPos < 8192 →
    let slot (i : Nat) := s.rst.areas.strata.get i
    let back := (List.range 8192).map fun k => (s.rst.strataPos + 8191 - k) % 8192
    let found (i : Nat) : Bool := match slot i with
      | some (.written r n) => decide (n ≤ 1) && r.job == job
      | _ => false
    let fires (i : Nat) : Bool := match slot i with
      | some (.written _ n) => n == 1
      | _ => false
    let firings (seen : List Nat) : State :=
      s.fireEach .storeCorrected ((seen.filter fires).map fun i => .slot .strata i)
    (∀ i ∈ back, found i = false) ∧ serve (.latest job) s = (firings back, .notFound, [])
      ∨ ∃ seen i rest r n, back = seen ++ i :: rest ∧ (∀ j ∈ seen, found j = false) ∧ slot i = some (.written r n)
          ∧ n ≤ 1 ∧ r.job = job
          ∧ serve (.latest job) s = (firings (seen ++ [i]), .ok, num 2 i ++ flag (decide (n = 1)) ++ strataBytes r)

/-! ### Circulation -/

/-- Set Pump and Set Circulation Limits (R43, R51), and the configuration marks an accepted request sets (R155).
That UNCONFIGURED fires before the reply is the model's choice (entry 17). A new W is in force only from the next accepted
stroke: the W in force does not change here (R49). -/
def Obligations.SettingPumpsAndLimits : Prop :=
  (∀ (ln : Link) (tag pump disp eff timeout : Nat) (s : State), CanTake s ln .setPump →
    exec (.setPump ln tag pump disp eff timeout) s = .next
      (let c : PumpConst := { disp := some (max 100 (min disp 60000)), eff := max 500 (min eff 1000)
                              timeout := max 2 (min timeout 30) }
       let st : Status :=
         if 100 ≤ disp ∧ disp ≤ 60000 ∧ 500 ≤ eff ∧ eff ≤ 1000 ∧ 2 ≤ timeout ∧ timeout ≤ 30 then .ok else .clamped
       if pump = 1 then
         (({ s with ccu := { s.ccu with p1 := { s.ccu.p1 with const := c } } } : State).mark
           fun m => { m with pump1 := true }).sayOn ln 26 tag st
       else if pump = 2 then
         ({ s with ccu := { s.ccu with p2 := { s.ccu.p2 with const := c } } } : State).sayOn ln 26 tag st
       else s.sayOn ln 26 tag .badValue))
  ∧ (∀ (s : State) (f : Marks → Marks),
      s.mark f =
        (let m := f s.rst.marks
         let still := s.rst.unconfigured && !(m.pump1 && m.rodClass && m.sections && m.tariffs)
         let t : State := { s with rst := { s.rst with marks := m, unconfigured := still } }
         if s.rst.unconfigured = true ∧ still = false then t.fire .unconfigured (.raw false) else t))
  ∧ ∀ (ln : Link) (tag g f t w p : Nat) (s : State), CanTake s ln .setCirculationLimits →
    exec (.setCirculationLimits ln tag g f t w p) s = .next
      (let l : CircLimits := { gainT := max 1050 (min g 2000), fullT := max 200 (min f 1000)
                               totalT := max 50 (min t 900), window := max 50000 (min w 5000000)
                               pulse := max 10 (min p 10000) }
       if l.fullT < l.gainT ∧ l.totalT < l.fullT then
         ({ s with ccu := { s.ccu with limits := l } } : State).sayOn ln 27 tag
           (if l.gainT = g ∧ l.fullT = f ∧ l.totalT = t ∧ l.window = w ∧ l.pulse = p then .ok else .clamped)
       else s.sayOn ln 27 tag .badValue)

/-- An accepted stroke (R44 to R46, R49): volume and remainder account for displacement times efficiency exactly, the volume is
held at its maximum, and PUMPS_RUNNING fires at the first running pump, which takes circulation out of IDLE. The increment
goes to the window and, in a lifting state, to the lift counter, and the Lag Unit works on the rise (R55, R84). The W in
force is the present setting from this stroke on; a stroke that brings the window to it completes it in the state that stage 4
left (R50, R53, R56). At last the Connection Unit takes the stroke (R34).
CIRC_LOSS firing before CIRC_GAIN where both change is the model's choice (entry 52). -/
def Obligations.StrokeConservesVolume : Prop :=
  (∀ p : Pump,
    let exact := p.const.disp.getD 0 * p.const.eff
    let q := p.afterStroke
    (p.vol + (exact + p.rem) / 1000 ≤ maxVolume → q.vol * 1000 + q.rem = p.vol * 1000 + p.rem + exact)
      ∧ (p.vol ≤ maxVolume → maxVolume < p.vol + (exact + p.rem) / 1000 → q.vol = maxVolume)
      ∧ p.vol ≤ q.vol ∧ q.rem = (exact + p.rem) % 1000 ∧ q.rem < 1000
      ∧ q.strokes = min 4294967295 (p.strokes + 1) ∧ q.running = true ∧ q.countdown = p.const.timeout
      ∧ q.const = p.const)
  ∧ (∀ (s : State) (id : PumpId), s.stroke id = (s.circStroke id).connStroke id)
  ∧ ∀ (s : State) (id : PumpId),
    let t := s.circStroke id
    let q := (s.ccu.pump id).afterStroke
    let inc := q.vol - (s.ccu.pump id).vol
    let worst (iv : Option OpenInterval) (was c : CircState) : Option OpenInterval :=
      if c = was then iv else iv.map fun v => { v with worst := if v.worst.rank < c.rank then c else v.worst }
    -- stages 1 to 3: the pump, its running, the window
    let state2 := if s.ccu.anyRunning = false ∧ s.ccu.state = .idle then .starting else s.ccu.state
    let pw := s.ccu.pw + inc
    let pumped : State := { s with
      ccu := { s.ccu.putPump id q with state := state2, pw }
      slu := { s.slu with openIv := worst s.slu.openIv s.ccu.state state2 } }
    let pumped := if s.ccu.anyRunning = true then pumped else pumped.fire .pumpsRunning (.raw true)
    -- stage 4: the lift counter, and the Lag Unit; from here on the present W is in force
    let lifted := pumped.lift inc
    let base : CircUnit :=
      { s.ccu.putPump id q with
        state := state2, pw, windowInForce := s.ccu.limits.window
        lift := s.ccu.lift + (if state2 = .idle ∨ state2 = .totalLoss then 0 else inc) }
    -- stage 5: the completion
    let f := min 9999 (s.ccu.rw * 1000 / pw)
    let st := stateAfter base f
    let loss := st == .partialLoss || st == .totalLoss
    let gain := st == .gain
    let full : CircUnit :=
      { base with
        pw := 0, rw := 0, state := st, lastFrac := some f, lastCand := some (bandOf s.ccu.limits f)
        lost := if f < 1000 then min 1099511627775 (s.ccu.lost + (pw - s.ccu.rw)) else s.ccu.lost
        gain := if 1000 < f then min 1099511627775 (s.ccu.gain + (s.ccu.rw - pw)) else s.ccu.gain
        lossRaw := loss, gainRaw := gain }
    t.ccu.pump id = q
      ∧ (∀ other, other ≠ id → t.ccu.pump other = s.ccu.pump other)
      ∧ (pw < s.ccu.limits.window → t.ccu = base ∧ t = { lifted with ccu := base })
      ∧ (s.ccu.limits.window ≤ pw →
          t.ccu = full
          ∧ t =
            (let u : State := { lifted with
               ccu := full, slu := { lifted.slu with openIv := worst lifted.slu.openIv state2 st } }
             let u := if s.ccu.lossRaw = loss then u else u.fire .circLoss (.raw loss)
             if s.ccu.gainRaw = gain then u else u.fire .circGain (.raw gain)))
      ∧ t.str = s.str ∧ t.cxu = s.cxu ∧ t.flu = s.flu ∧ t.tick = s.tick

/-- WINDOW_COMPLETION, when P_w has reached the W in force, that of the latest completion check (R49, R50, R53, R56): the
fraction, the candidate, the lost and gain volumes, the state decided by the first case of R53's table, the raw values, and
the restart; the worst state of the open interval takes the state in (R99).
That the completion is a command of its own, which changes nothing short of a whole window, is the model's choice (entry 8), as
is CIRC_LOSS firing before CIRC_GAIN where both change (entry 52). -/
def Obligations.WindowCompletes : Prop :=
  ∀ s : State, s.power = .on →
    (s.ccu.pw < s.ccu.windowInForce → exec .windowCompletion s = .next s)
    ∧ (s.ccu.windowInForce ≤ s.ccu.pw →
        exec .windowCompletion s = .next
          (let f := min 9999 (s.ccu.rw * 1000 / s.ccu.pw)
           let c : CircState :=
             if s.ccu.limits.gainT ≤ f then .gain else if s.ccu.limits.fullT ≤ f then .circulating
             else if s.ccu.limits.totalT ≤ f then .partialLoss else .totalLoss
           let was := s.ccu.state
           let st : CircState :=
             if was = .starting then c
             else if c = .totalLoss ∧ (was = .circulating ∨ was = .partialLoss ∨ was = .totalLoss ∨ was = .gain) then
               .totalLoss
             else if c = was then was
             else if s.ccu.lastCand = some c then c
             else was
           let loss := st == .partialLoss || st == .totalLoss
           let gain := st == .gain
           let t : State := { s with
             ccu := { s.ccu with
               pw := 0, rw := 0, lastFrac := some f, lastCand := some c, state := st
               lost := if f < 1000 then min 1099511627775 (s.ccu.lost + (s.ccu.pw - s.ccu.rw)) else s.ccu.lost
               gain := if 1000 < f then min 1099511627775 (s.ccu.gain + (s.ccu.rw - s.ccu.pw)) else s.ccu.gain
               lossRaw := loss, gainRaw := gain }
             slu := { s.slu with
               openIv :=
                 if st = was then s.slu.openIv
                 else s.slu.openIv.map fun v => { v with worst := if v.worst.rank < st.rank then st else v.worst } } }
           let t := if s.ccu.lossRaw = loss then t else t.fire .circLoss (.raw loss)
           if s.ccu.gainRaw = gain then t else t.fire .circGain (.raw gain)))

/-- PUMP_TIMEOUT (R47, R54): a pump whose countdown stands at 0 stops running; when no pump runs then, PUMPS_RUNNING fires and
circulation stops, and a window of at least a quarter of the W in force (R49, R51) is judged first (R50, R53, R56); the open
interval's worst state takes each change in (R99). While another pump runs no link changes.
That PUMPS_RUNNING fires before the conditions of the judged window (entry 20), CIRC_LOSS before CIRC_GAIN (entry 52), and that
with no deadline reached the command changes nothing (entry 8), are the model's choices. -/
def Obligations.PumpTimeoutStopsCirculation : Prop :=
  ∀ (p : PumpId) (s : State), s.power = .on →
    let stopped := s.ccu.putPump p { s.ccu.pump p with running := false }
    (¬((s.ccu.pump p).running = true ∧ (s.ccu.pump p).countdown = 0) → exec (.pumpTimeout p) s = .next s)
    ∧ ((s.ccu.pump p).running = true → (s.ccu.pump p).countdown = 0 →
        (stopped.anyRunning = true → exec (.pumpTimeout p) s = .next { s with ccu := stopped })
        ∧ (stopped.anyRunning = false →
            let judged := s.ccu.windowInForce ≤ s.ccu.pw * 4
            let f := min 9999 (s.ccu.rw * 1000 / s.ccu.pw)
            let st := stateAfter s.ccu f
            let loss := st == .partialLoss || st == .totalLoss
            let gain := st == .gain
            let worse (x y : CircState) : CircState := if x.rank < y.rank then y else x
            let worst (w : CircState) : CircState :=
              let w := if judged ∧ st ≠ s.ccu.state then worse w st else w
              if (if judged then st else s.ccu.state) ≠ .idle then worse w .idle else w
            let idle : CircUnit := { stopped with state := .idle, pw := 0, rw := 0, lastCand := none }
            let rested (ccu : CircUnit) : State :=
              ({ s with
                  ccu
                  slu := { s.slu with openIv := s.slu.openIv.map fun v => { v with worst := worst v.worst } } } : State).fire
                .pumpsRunning (.raw false)
            (¬ judged → exec (.pumpTimeout p) s = .next (rested idle))
            ∧ (judged → exec (.pumpTimeout p) s = .next
                (let u := rested { idle with
                   lastFrac := some f
                   lost := if f < 1000 then min 1099511627775 (s.ccu.lost + (s.ccu.pw - s.ccu.rw)) else s.ccu.lost
                   gain := if 1000 < f then min 1099511627775 (s.ccu.gain + (s.ccu.rw - s.ccu.pw)) else s.ccu.gain
                   lossRaw := loss, gainRaw := gain }
                 let u := if s.ccu.lossRaw = loss then u else u.fire .circLoss (.raw loss)
                 if s.ccu.gainRaw = gain then u else u.fire .circGain (.raw gain)))))

/-- TIME_BASE_TICK (R31, R109, R110, R112, R99, R47, R54): the count, the job clock, the activity by the first test that
holds, its meter, the drilling second, and the pump countdowns. When the last pump stops, a window of at least a quarter of
the W in force is judged, then circulation is IDLE; the open interval's worst state takes each change in. PUMPS_RUNNING fires at
the stop and CIRC_LOSS and CIRC_GAIN at the judged window (R56), in this order by entries 20 and 52; a tick without a stop
leaves the links as they were. Below the end of the tick count (entry 14); the tick brings the millisecond timing to the
whole second, the model's choice (entry 6). -/
def Obligations.TickResult : Prop :=
  ∀ s : State, s.power = .on → s.tick < 4294967295 →
    let since (at_ : Option Nat) (hold : Nat) : Prop := ∃ t, at_ = some t ∧ s.tick + 1 - t ≤ hold
    ∀ a : Activity,
      (match s.jmu.downtime with
       | some x => (x.kind = .rig → a = .downtimeRig) ∧ (x.kind = .client → a = .downtimeClient)
       | none =>
         if s.ccu.state = .totalLoss ∨ s.ccu.state = .gain then a = .lossControl
         else (since s.jmu.lastAdvance s.jmu.drillHold → a = .drilling)
           ∧ (¬ since s.jmu.lastAdvance s.jmu.drillHold →
               ((s.cxu.state ≠ .free ∨ since (s.cxu.last.map (·.time)) s.jmu.tripHold) → a = .tripping)
               ∧ (¬ (s.cxu.state ≠ .free ∨ since (s.cxu.last.map (·.time)) s.jmu.tripHold) →
                   a = if s.ccu.state = .idle then .standby else .circulating))) →
      let counts := s.jmu.state = .opened ∧ s.jmu.clock < 4294967295
      let runs (p : PumpId) : Bool := (s.ccu.pump p).running && (s.ccu.pump p).countdown != 1
      let stops := s.ccu.anyRunning = true ∧ runs .one = false ∧ runs .two = false
      let judged := stops ∧ s.ccu.windowInForce ≤ s.ccu.pw * 4
      let f := min 9999 (s.ccu.rw * 1000 / s.ccu.pw)
      let st := stateAfter s.ccu f
      let loss := st == .partialLoss || st == .totalLoss
      let gain := st == .gain
      let worse (x y : CircState) : CircState := if x.rank < y.rank then y else x
      let worst (w : CircState) : CircState :=
        let w := if judged ∧ st ≠ s.ccu.state then worse w st else w
        let before := if judged then st else s.ccu.state
        if stops ∧ before ≠ .idle then worse w .idle else w
      ∃ t, exec .timeBaseTick s = .next t
        ∧ t.tick = s.tick + 1 ∧ t.now = max s.now ((s.tick + 1) * 10000)
        ∧ (¬ counts → t.jmu = s.jmu)
        ∧ (counts → t.jmu = { s.jmu with clock := s.jmu.clock + 1, lastActivity := some a, meters := t.jmu.meters }
            ∧ ∀ b : Activity, (t.jmu.meters[b.code]?).getD 0 =
                (s.jmu.meters[b.code]?).getD 0 + (if b = a then 1 else 0))
        ∧ t.slu = { s.slu with
            openIv := s.slu.openIv.map fun v =>
              { v with seconds := v.seconds + (if counts ∧ a = .drilling then 1 else 0), worst := worst v.worst } }
        ∧ (∀ p : PumpId, t.ccu.pump p =
            { s.ccu.pump p with countdown := (s.ccu.pump p).countdown - 1, running := runs p })
        ∧ (¬ stops → t.ccu = { s.ccu with p1 := t.ccu.p1, p2 := t.ccu.p2 })
        ∧ (stops → ¬ judged →
            t.ccu = { s.ccu with p1 := t.ccu.p1, p2 := t.ccu.p2, state := .idle, pw := 0, rw := 0, lastCand := none })
        ∧ (judged →
            t.ccu = { s.ccu with
              p1 := t.ccu.p1, p2 := t.ccu.p2, state := .idle, pw := 0, rw := 0, lastCand := none, lastFrac := some f
              lost := if f < 1000 then min 1099511627775 (s.ccu.lost + (s.ccu.pw - s.ccu.rw)) else s.ccu.lost
              gain := if 1000 < f then min 1099511627775 (s.ccu.gain + (s.ccu.rw - s.ccu.pw)) else s.ccu.gain
              lossRaw := loss, gainRaw := gain })
        ∧ (let u : State := { t with liu := s.liu }
           let v := u.fire .pumpsRunning (.raw false)
           (¬ stops → t = u)
           ∧ (stops → ¬ judged → t = v)
           ∧ (judged →
               t =
                 (let v := if s.ccu.lossRaw = loss then v else v.fire .circLoss (.raw loss)
                  if s.ccu.gainRaw = gain then v else v.fire .circGain (.raw gain))))
        ∧ t.str = s.str ∧ t.cxu = s.cxu ∧ t.lgu = s.lgu ∧ t.rst = s.rst ∧ t.flu = s.flu ∧ t.loaded = s.loaded

/-! ### Lag and cuttings -/

/-- DUE_DETECTION (R83, R84 stage 2): at a rise of the counter handed to the unit, every IN_FLIGHT parcel whose effective
target the counter has reached becomes DUE with its window end; SAMPLE_DUE fires for each, oldest first; the rise is examined
then. Without a rise to examine nothing is DUE (R82).
That the stage is a command of its own, which does nothing without a rise, is the model's choice (entries 8 and 9). -/
def Obligations.DueDetectionResult : Prop :=
  ∀ s : State, s.power = .on →
    (s.lgu.rise = false → exec .dueDetection s = .next s)
    ∧ (s.lgu.rise = true → QueueOk s →
      exec .dueDetection s = .next
        (({ s with
            lgu := { s.lgu with
              rise := false
              parcels := s.lgu.parcels.map fun p =>
                if p.status = .inFlight ∧ p.eff ≤ s.ccu.lift then
                  { p with status := .due, windowEnd := some (p.eff + s.lgu.sampleWindow) }
                else p } } : State).fireEach .sampleDue
          ((s.lgu.parcels.filter fun p => p.status = .inFlight ∧ p.eff ≤ s.ccu.lift).map fun p =>
            .interval p.record.interval)))

/-- WINDOW_EXPIRY (R84 stage 1, R85): at a rise of the counter, each DUE parcel whose window end is reached has SAMPLE_MISSED
fired and its record made final as MISSED, oldest first; no parcel stays DUE with a reached window and the others stay as
they are. Without a rise nothing expires. A lifted stroke is such a rise: expiry, then due detection.
That the stage is a command of its own, which does nothing without a rise, is the model's choice (entries 8 and 9). -/
def Obligations.WindowExpiryResult : Prop :=
  (∀ s : State, s.power = .on →
    let reached (p : Parcel) : Prop := p.status = .due ∧ (p.windowEnd.any fun w => decide (w ≤ s.ccu.lift)) = true
    let missed (r : StrataRec) : StrataRec := { r with status := some .missed, rock := .unknown, lith := none, colour := none }
    (s.lgu.rise = false → exec .windowExpiry s = .next s)
    ∧ (s.lgu.rise = true →
        exec .windowExpiry s = .next
          ((s.lgu.parcels.filter fun p => decide (reached p)).foldl
            (fun t p => (t.fire .sampleMissed (.interval p.record.interval)).finishParcel (missed p.record)) s)
        ∧ (QueueOk s → ∃ t, exec .windowExpiry s = .next t
          ∧ (∀ p ∈ t.lgu.parcels, ¬ reached p)
          ∧ (∀ p, p.status ≠ .finalWaiting → ¬ reached p → (p ∈ t.lgu.parcels ↔ p ∈ s.lgu.parcels))
          ∧ (∀ q ∈ t.lgu.parcels, q.status = .finalWaiting → q ∈ s.lgu.parcels
              ∨ ∃ p ∈ s.lgu.parcels, reached p ∧ q = { p with status := .finalWaiting, record := missed p.record })
          ∧ t.ccu = s.ccu ∧ t.str = s.str ∧ t.cxu = s.cxu ∧ t.flu = s.flu ∧ t.tick = s.tick
          ∧ t.jmu.clock = s.jmu.clock ∧ t.slu.openIv = s.slu.openIv ∧ t.slu.lastClass = s.slu.lastClass)))
  ∧ ∀ (s : State) (inc : Nat), s.power = .on →
    let lifting : Prop := s.ccu.state ≠ .idle ∧ s.ccu.state ≠ .totalLoss ∧ 0 < inc
    (¬ lifting → s.lift inc = s)
    ∧ (lifting → ∃ t u,
        exec .windowExpiry
          { s with ccu := { s.ccu with lift := s.ccu.lift + inc }, lgu := { s.lgu with rise := true } } = .next t
        ∧ exec .dueDetection t = .next u ∧ s.lift inc = u ∧ u.lgu.rise = false)

/-- An advance of the hole. It is reported to the Job Meter Unit, then to the Strata Log Unit (R17, R115). Intervals tile the
hole by the step: those whose bottom the hole has reached close one at a time, the next opening at each bottom and taking
the rest of the advance (R95, R97);
a close completes the record and the Lag Unit decides its parcel's fate (R98, R81; INTERVAL_CLOSED after the whole fate is
entry 46). A created parcel gets its targets and the last annulus record (R70, R71, R73, R82). The annular volume counts, over
each millimetre from 0 to the bit, the hole capacity less the capacity of the component there, no less than 0, with the
segments, clamps and firings of R65 to R69. -/
def Obligations.IntervalsAndParcels : Prop :=
  -- the hole takes the bit depth
  (∀ s : State,
    (¬(s.str.slips = .released ∧ s.str.bha ≠ none ∧ s.str.depth = .reliable ∧ s.str.hole < s.str.d) → s.holeRule = s)
    ∧ (s.str.slips = .released → s.str.bha ≠ none → s.str.depth = .reliable → s.str.hole < s.str.d →
        s.holeRule =
          ({ s with
              str := { s.str with hole := s.str.d }
              jmu := { s.jmu with
                lastAdvance := some s.tick
                pendingMm :=
                  if s.jmu.state = .noJob then s.jmu.pendingMm else s.jmu.pendingMm + (s.str.d - s.str.hole) } }
            : State).strataAdvance (s.str.d - s.str.hole) s.str.d))
  -- the grid
  ∧ (∀ (s : State) (dh h : Nat), s.jmu.state ≠ .opened ∨ s.slu.openIv = none → s.strataAdvance dh h = s)
  ∧ (∀ (s : State) (dh h : Nat) (iv : OpenInterval), s.jmu.state = .opened → s.slu.openIv = some iv → h < iv.bottom →
      s.strataAdvance dh h = { s with slu := { s.slu with openIv := some { iv with drilled := iv.drilled + dh } } })
  ∧ (∀ (s : State) (dh h : Nat) (iv : OpenInterval), s.jmu.state = .opened → s.slu.openIv = some iv → iv.bottom ≤ h →
      0 < s.slu.step →
      let more := (h - iv.bottom) / s.slu.step
      let top := iv.bottom + more * s.slu.step
      let t := s.strataAdvance dh h
      t.slu.openIv = some
        { number := iv.number + 1 + more, top, bottom := top + s.slu.step, drilled := h - top, seconds := 0
          worst := s.ccu.state, strike := none, notes := [] }
      ∧ t.slu.closed = s.slu.closed + 1 + more ∧ t.slu.anchor = s.slu.anchor ∧ t.slu.step = s.slu.step
      ∧ t.slu.lith = s.slu.lith ∧ t.ccu = s.ccu ∧ t.str = s.str ∧ t.cxu = s.cxu ∧ t.flu = s.flu
      ∧ (let part : OpenInterval := { iv with drilled := iv.drilled + (iv.bottom - (h - dh)) }
         let u := ({ s with slu := { s.slu with openIv := some part } } : State).closeInterval part
         u.slu.openIv = some
             { number := iv.number + 1, top := iv.bottom, bottom := iv.bottom + s.slu.step, drilled := 0, seconds := 0
               worst := s.ccu.state, strike := none, notes := [] }
         ∧ t = u.strataAdvance (h - iv.bottom) h
         ∧ (more = 0 →
             t = { u with
               slu := { u.slu with openIv := u.slu.openIv.map fun v => { v with drilled := h - iv.bottom } } })))
  ∧ (∀ (s : State) (iv : OpenInterval),
      let r : StrataRec :=
        { job := (s.jmu.ident.map (·.number)).getD 0, interval := iv.number, top := iv.top, bottom := iv.bottom
          seconds := iv.seconds, rate := if iv.seconds = 0 then none else some ((iv.bottom - iv.top) * 60 / iv.seconds)
          worst := iv.worst, strike := iv.strike, lith := none, colour := none, rock := .unknown, status := none
          notes := iv.notes, closeTime := s.jmu.clock }
      let t := (({ s with slu := { s.slu with closed := s.slu.closed + 1 } } : State).parcelFate r).fire .intervalClosed
        (.interval iv.number)
      s.closeInterval iv =
        { t with
          slu := { t.slu with
            openIv := some
              { number := iv.number + 1, top := iv.bottom, bottom := iv.bottom + s.slu.step, drilled := 0, seconds := 0
                worst := s.ccu.state, strike := none, notes := [] } } })
  -- the fate and the creation of a parcel
  ∧ (∀ (s : State) (r : StrataRec),
      let final (st : SampleStatus) : StrataRec :=
        { r with status := some st, rock := .unknown, lith := none, colour := none }
      (s.ccu.state = .totalLoss → s.parcelFate r = s.finishLoose (final .lostReturns))
      ∧ (s.ccu.state ≠ .totalLoss → 32 ≤ s.lgu.parcels.length →
          s.parcelFate r = (s.fire .parcelUntracked (.interval r.interval)).finishLoose (final .untracked))
      ∧ (s.ccu.state ≠ .totalLoss → s.lgu.parcels.length < 32 →
          let a := annulus s.str s.lgu.sections
          let raw := s.ccu.lift + a.sum / 1000 + s.lgu.surface
          let eff := match s.lgu.parcels.getLast? with
            | some p => max raw p.eff
            | none => raw
          let near := decide (s.lgu.nearLevel ≤ s.lgu.parcels.length + 1)
          let t : State := { s.fireEach .geometryClamp (a.clamps.map Content.depth) with
            lgu := { s.lgu with
              lastAnnulus := some
                { interval := r.interval, d := s.str.d, len := s.str.length, rods := s.str.list.length
                  segments := a.segments, volume := a.sum / 1000, clamped := a.clamped, beyond := a.beyond
                  lift := s.ccu.lift, surface := s.lgu.surface, raw, eff, raised := decide (raw < eff) }
              parcels := s.lgu.parcels ++ [⟨raw, eff, .inFlight, none, r⟩]
              nearRaw := near } }
          s.parcelFate r = if s.lgu.nearRaw = near then t else t.fire .queueNearFull (.raw near)))
  -- the annular volume
  ∧ ∀ (u : StringUnit) (sections : List Section) (last : Section), sections.getLast? = some last →
      strictlyRising (sections.map (·.bottom)) = true → (∀ x ∈ sections, 0 < x.bottom) →
      let bha : Nat := (u.bha.map (·.len)).getD 0
      let start (k : Nat) : Int := u.d - bha - ((u.list.take k).map (rodLen u)).sum
      let hole (x : Nat) : Nat := ((sections.find? fun c => x < c.bottom).map (·.cap)).getD last.cap
      let capOf (id : Nat) : Nat := (((findRod u.rods id).bind fun r => classEntry u.classes r.cls).map (·.cap)).getD 0
      let tool (x : Nat) : Nat :=
        if start 0 ≤ x then (u.bha.map (·.cap)).getD 0
        else
          match (List.range u.list.length).find? fun k => decide (start (k + 1) ≤ x ∧ x < start k) with
          | some k => capOf ((u.list[k]?).getD 0)
          | none => 0
      let cut (x : Nat) : Prop :=
        0 < x ∧ x < u.d
          ∧ ((∃ c ∈ sections, c.bottom = x) ∨ (u.bha ≠ none ∧ start 0 = x) ∨ ∃ k < u.list.length, start (k + 1) = x)
      let a := annulus u sections
      a.sum = ((List.range u.d).map fun x => hole x - tool x).sum
      ∧ a.segments = ((segments u sections).length)
      ∧ (∀ x y, (x, y) ∈ segments u sections ↔ x < y ∧ (x = 0 ∨ cut x) ∧ (y = u.d ∨ cut y) ∧ ∀ z, x < z → z < y → ¬ cut z)
      ∧ strictlyRising ((segments u sections).map (·.1)) = true
      ∧ a.clamped = ((segments u sections).filter fun x => hole x.1 < tool x.1).length
      ∧ a.beyond = (if last.bottom < u.d then some last.bottom else none)
      ∧ a.clamps = (segments u sections).flatMap fun x =>
          (if x.1 = last.bottom then [last.bottom] else []) ++ (if hole x.1 < tool x.1 then [x.1] else [])

/-- A record becomes final (R89, R116, R103): pending falls by its length, its cells are credited, a catch in another class
fires STRATUM_CHANGE, and the offer decides where record and parcel go; then a READY controller takes its head (R144). A
record without a parcel waits in the overflow while that has room (R91). At a departure the waiting records are offered again
in order, the overflow first, as far as there is room, and in a FAILED store all leave (R90); then comes the release check of
the job record (R136). -/
def Obligations.FinalRecordPath : Prop :=
  (∀ (s : State) (r : StrataRec),
    let caught := r.status = some .caught
    let rock := if caught then r.rock else .unknown
    let credited : JobUnit := { s.jmu with
      pendingMm := s.jmu.pendingMm - (r.bottom - r.top)
      cells := creditCells s.jmu.tariff.bounds r.top r.bottom rock s.jmu.cells }
    let compared (base : State) : State :=
      let told : State :=
        if caught ∧ s.slu.lastClass.isSome = true ∧ s.slu.lastClass ≠ some r.rock then
          base.fire .stratumChange (.interval r.interval) else base
      if caught then { told with slu := { told.slu with lastClass := some r.rock } } else told
    let told := compared { s with
      lgu := { s.lgu with
        parcels := s.lgu.parcels.map fun p => if p.record.interval = r.interval then { p with record := r } else p }
      jmu := credited }
    let loose := compared { s with jmu := credited }
    let queued (t : State) : State := { t with rst := { t.rst with queue := t.rst.queue ++ [⟨.strata r, 0⟩] } }
    let gone (t : State) : State :=
      ({ t with lgu := { t.lgu with parcels := t.lgu.parcels.filter fun p => p.record.interval != r.interval } }
        : State).evalNearFull
    (s.rst.ctl ≠ .failed → s.rst.queue.length < 12 →
      s.finishParcel r = (gone (queued told)).takeHead ∧ s.finishLoose r = (queued loose).takeHead)
    ∧ (s.rst.ctl ≠ .failed → 12 ≤ s.rst.queue.length →
        s.finishParcel r =
          ({ told with
              lgu := { told.lgu with
                parcels := told.lgu.parcels.map fun p =>
                  if p.record.interval = r.interval then { p with status := .finalWaiting } else p } }
            : State).takeHead
        ∧ s.finishLoose r =
          (if s.slu.overflow.length < 4 then
             { loose with slu := { loose.slu with overflow := loose.slu.overflow ++ [r] } }
           else loose.fire .commitDropped (.droppedInterval r.interval)).takeHead)
    ∧ (s.rst.ctl = .failed →
        s.finishParcel r = (gone told).fire .commitDropped (.droppedInterval r.interval)
        ∧ s.finishLoose r = loose.fire .commitDropped (.droppedInterval r.interval)))
  -- the round of re-offers
  ∧ (∀ s : State,
    let final := (s.lgu.parcels.filter fun p => p.status == .finalWaiting).map (·.record)
    let t := reoffer s.waiting s
    s.waiting = s.slu.overflow.map Waiting.loose ++ final.map Waiting.parcel
    ∧ (s.rst.ctl ≠ .failed →
        let room := 12 - s.rst.queue.length
        let out := s.slu.overflow.take room
        let taken := final.take (room - s.slu.overflow.length)
        t.rst = { s.rst with queue := s.rst.queue ++ (out ++ taken).map fun r => ⟨.strata r, 0⟩ }
        ∧ t.slu = { s.slu with overflow := s.slu.overflow.drop room }
        ∧ t.lgu.parcels = s.lgu.parcels.filter (fun p => !(taken.map (·.interval)).contains p.record.interval)
        ∧ (taken = [] → t = { s with rst := t.rst, slu := t.slu })
        ∧ (taken ≠ [] → t.lgu.nearRaw = decide (s.lgu.nearLevel ≤ t.lgu.parcels.length))
        ∧ t = { s with rst := t.rst, slu := t.slu, lgu := t.lgu, liu := t.liu })
    ∧ (s.rst.ctl = .failed →
        t.slu = { s.slu with overflow := [] }
        ∧ t.lgu.parcels = s.lgu.parcels.filter (fun p => !(final.map (·.interval)).contains p.record.interval)
        ∧ (final = [] → t = s.slu.overflow.foldl (fun u r => u.fire .commitDropped (.droppedInterval r.interval))
            { s with slu := t.slu })
        ∧ (∀ r ∈ s.slu.overflow ++ final, ∀ ln, (s.link ln).latchWhileMasked = true ∨ (s.link ln).masked .commitDropped = false →
            (t.link ln).latch .commitDropped ≠ none)
        ∧ t = { s with slu := t.slu, lgu := t.lgu, liu := t.liu }))
  -- the release check
  ∧ ∀ s : State,
    (s.jmu.state ≠ .closing .held → s.releaseCheck = s)
    ∧ ∀ r, s.jmu.state = .closing .held → s.jmu.record = some r →
        let n := r.ident.number
        let waits : Prop :=
          (∃ p ∈ s.lgu.parcels, p.record.job = n) ∨ (∃ x ∈ s.slu.overflow, x.job = n)
            ∨ ∃ e ∈ s.rst.queue, ∃ x, e.body = .strata x ∧ x.job = n
        (waits → s.releaseCheck = s)
        ∧ (¬ waits → s.rst.ctl = .failed →
            s.releaseCheck =
              { s.fire .commitDropped (.droppedJob n) with
                jmu := { s.jmu with state := .noJob }, rst := { s.rst with protect := none } })
        ∧ (¬ waits → s.rst.ctl ≠ .failed → s.rst.queue.length < 12 →
            s.releaseCheck =
              { s with
                jmu := { s.jmu with state := .closing .offered }
                rst := { s.rst with queue := s.rst.queue ++ [⟨.job r, 0⟩] } })
        ∧ (¬ waits → s.rst.ctl ≠ .failed → 12 ≤ s.rst.queue.length → s.releaseCheck = s)

/-- The bands split an interval (R116, R117): with bounds rising from 0, each band's cell of its rock class rises by the part
of the interval in that band, which ends at the next bound, the last without end; the parts add up to the interval's length,
and no cell of another class changes. -/
def Obligations.BandsSplitTheInterval : Prop :=
  ∀ (bounds : Vector Nat 6) (top bottom : Nat) (rock : RockClass) (cells : Vector Nat 24),
    bounds[0] = 0 → strictlyRising bounds.toList = true → top ≤ bottom →
      (creditCells bounds top bottom rock cells).toList.sum = cells.toList.sum + (bottom - top)
      ∧ (∀ (band : Fin 6) (other : RockClass), other ≠ rock →
          (creditCells bounds top bottom rock cells)[band.val * 4 + other.code]? = cells[band.val * 4 + other.code]?)
      ∧ (∀ band : Fin 6,
          let upper := (bounds[band.val + 1]?).getD bottom
          (creditCells bounds top bottom rock cells)[band.val * 4 + rock.code]? =
            cells[band.val * 4 + rock.code]?.map (· + (min bottom upper - max top bounds[band])))
      ∧ ∀ band : Fin 6, bounds[band] ≤ top → (∀ next : Fin 6, next.val = band.val + 1 → bottom ≤ bounds[next]) →
          (creditCells bounds top bottom rock cells)[band.val * 4 + rock.code]? =
            cells[band.val * 4 + rock.code]?.map (· + (bottom - top))

/-- Set Hole Sections, Set Sample Window, Set Interval Step and Set Lithology Table (R62, R79, R96, R100): checks in order,
values brought in, what they write, and the reply.
That UNCONFIGURED and QUEUE_NEAR_FULL fire before the reply is the model's choice (entry 17). -/
def Obligations.SettingLagAndLog : Prop :=
  (∀ (ln : Link) (tag : Nat) (sections : List (Nat × Nat)) (surface : Nat) (s : State), CanTake s ln .setHoleSections →
    exec (.setHoleSections ln tag sections surface) s = .next
      (if sections.length < 1 ∨ 8 < sections.length then s.sayOn ln 29 tag .badValue
       else if ¬ ∀ x ∈ sections, 1 ≤ x.1 ∧ x.1 ≤ 1500000 then s.sayOn ln 29 tag .badValue
       else if strictlyRising (sections.map (·.1)) = false then s.sayOn ln 29 tag .badValue
       else
         (({ s with
             lgu := { s.lgu with
               sections := sections.map fun x => ⟨x.1, max 1000 (min x.2 400000)⟩
               surface := min surface 2000000 } } : State).mark fun m => { m with sections := true }).sayOn ln 29 tag
           (if (∀ x ∈ sections, 1000 ≤ x.2 ∧ x.2 ≤ 400000) ∧ surface ≤ 2000000 then .ok else .clamped)))
  ∧ (∀ (ln : Link) (tag volume level : Nat) (s : State), CanTake s ln .setSampleWindow →
    exec (.setSampleWindow ln tag volume level) s = .next
      (let v := max 20000 (min volume 2000000)
       let n := max 8 (min level 32)
       let raw := decide (n ≤ s.lgu.parcels.length)
       let t : State := { s with lgu := { s.lgu with sampleWindow := v, nearLevel := n, nearRaw := raw } }
       (if s.lgu.nearRaw = raw then t else t.fire .queueNearFull (.raw raw)).sayOn ln 31 tag
         (if v = volume ∧ n = level then .ok else .clamped)))
  ∧ (∀ (ln : Link) (tag step : Nat) (s : State), CanTake s ln .setIntervalStep →
    exec (.setIntervalStep ln tag step) s = .next
      (let n := max 250 (min step 5000) - max 250 (min step 5000) % 50
       ({ s with slu := { s.slu with step := n } } : State).sayOn ln 34 tag (if n = step then .ok else .clamped)))
  ∧ ∀ (ln : Link) (tag : Nat) (entries : List (Nat × Nat)) (s : State), CanTake s ln .setLithologyTable →
    ((63 < entries.length ∨ ∃ x ∈ entries, x.1 < 1 ∨ 63 < x.1 ∨ 2 < x.2) →
      exec (.setLithologyTable ln tag entries) s = .next (s.sayOn ln 35 tag .badValue))
    ∧ (¬(entries.map (·.1)).Nodup →
      exec (.setLithologyTable ln tag entries) s = .next (s.sayOn ln 35 tag .badValue))
    ∧ (entries.length ≤ 63 → (∀ x ∈ entries, 1 ≤ x.1 ∧ x.1 ≤ 63 ∧ x.2 ≤ 2) → (entries.map (·.1)).Nodup →
        ((∃ p ∈ s.lgu.parcels, p.status = .due) →
          exec (.setLithologyTable ln tag entries) s = .next (s.sayOn ln 35 tag .busy))
        ∧ ((∀ p ∈ s.lgu.parcels, p.status ≠ .due) →
          ∃ lith, exec (.setLithologyTable ln tag entries) s =
              .next (({ s with slu := { s.slu with lith } } : State).sayOn ln 35 tag .ok)
            ∧ strictlyRising (lith.map (·.code)) = true ∧ lith.length = entries.length
            ∧ ∀ code : Nat, ∀ cls : RockClass, (⟨code, cls⟩ : LithEntry) ∈ lith ↔ (code, cls.code) ∈ entries))

/-- Log Sample (R86, R87): the checks in order, and the record an accepted catch makes final.
That its firings come before the reply is the model's choice (entry 17). -/
def Obligations.LoggingASample : Prop :=
  ∀ (ln : Link) (tag n code : Nat) (colour : Option Nat) (notes : List Nat) (s : State), CanTake s ln .logSample →
    let ran := exec (.logSample ln tag n code colour notes) s
    let refused (st : Status) : Host.Outcome State Fault Refusal := .next (s.sayOn ln 32 tag st)
    let rock := (s.slu.lith.find? fun e => e.code == code).map (·.cls)
    let drilled : Prop := s.jmu.state ≠ .noJob ∧
      match s.slu.openIv with
      | some iv => n ≤ iv.number
      | none => n < s.slu.closed
    let operandsOk := (∀ c, colour = some c → c ≤ 15) ∧ notes.length ≤ 3 ∧ ∀ x ∈ notes, 1 ≤ x ∧ x ≤ 255
    (¬ operandsOk → ran = refused .badValue)
    ∧ (operandsOk → code < 1 ∨ 63 < code ∨ rock = none → ran = refused .badValue)
    ∧ ∀ cls, operandsOk → 1 ≤ code → code ≤ 63 → rock = some cls →
        (¬ drilled → ran = refused .notFound)
        ∧ (drilled →
            (s.slu.openIv.map (·.number) = some n → ran = refused .notDue)
            ∧ (s.slu.openIv.map (·.number) ≠ some n →
                match s.lgu.parcels.find? (fun p => p.record.interval == n) with
                | none => ran = refused .tooLate
                | some p =>
                  (p.status = .finalWaiting → ran = refused .tooLate)
                  ∧ (p.status = .inFlight → ran = refused .notDue)
                  ∧ (p.status = .due → 3 < p.record.notes.length + notes.length → ran = refused .tableFull)
                  ∧ (p.status = .due → p.record.notes.length + notes.length ≤ 3 →
                      ran = .next ((s.finishParcel
                        { p.record with status := some .caught, lith := some code, rock := cls, colour
                                        notes := p.record.notes ++ notes }).sayOn ln 32 tag .ok))))

/-! ### The strata log -/

/-- Report Water Strike and Add Note (R101, R102): the checks in order and what an accepted report writes.
That WATER_STRIKE fires before the reply is the model's choice (entry 17). -/
def Obligations.WaterStrikesAndNotes : Prop :=
  (∀ (ln : Link) (tag depth : Nat) (s : State), CanTake s ln .reportWaterStrike →
    let ran := exec (.reportWaterStrike ln tag depth) s
    let refused (st : Status) : Host.Outcome State Fault Refusal := .next (s.sayOn ln 36 tag st)
    let holds (top bottom : Nat) : Prop := top ≤ depth ∧ depth < bottom
    let shallow (old : Option Nat) : Option Nat := some (min depth (old.getD depth))
    (s.jmu.state = .noJob → ran = refused .noJob)
    ∧ (∀ ph, s.jmu.state = .closing ph → ran = refused .closing)
    ∧ (s.jmu.state = .opened →
        (s.str.hole < depth → ran = refused .badValue)
        ∧ (depth ≤ s.str.hole → depth < s.slu.anchor.getD 0 → ran = refused .notFound)
        ∧ (depth ≤ s.str.hole → s.slu.anchor.getD 0 ≤ depth →
            (∀ iv, s.slu.openIv = some iv → holds iv.top iv.bottom →
              ran = .next ((({ s with slu := { s.slu with openIv := some { iv with strike := shallow iv.strike } } }
                : State).fire .waterStrike (.depth depth)).sayOn ln 36 tag .ok))
            ∧ ((∀ iv, s.slu.openIv = some iv → ¬ holds iv.top iv.bottom) →
                (∀ p ∈ s.lgu.parcels, p.status = .finalWaiting ∨ ¬ holds p.record.top p.record.bottom) →
                ran = refused .tooLate)
            ∧ ((∀ iv, s.slu.openIv = some iv → ¬ holds iv.top iv.bottom) → QueueOk s →
                ∀ p ∈ s.lgu.parcels, p.status ≠ .finalWaiting → holds p.record.top p.record.bottom →
                (∀ q ∈ s.lgu.parcels, holds q.record.top q.record.bottom → q = p) →
                ran = .next ((({ s with
                    lgu := { s.lgu with
                      parcels := s.lgu.parcels.map fun q =>
                        if q = p then { q with record := { q.record with strike := shallow q.record.strike } } else q } }
                  : State).fire .waterStrike (.depth depth)).sayOn ln 36 tag .ok)))))
  ∧ ∀ (ln : Link) (tag n note : Nat) (s : State), CanTake s ln .addNote →
    let ran := exec (.addNote ln tag n note) s
    let refused (st : Status) : Host.Outcome State Fault Refusal := .next (s.sayOn ln 37 tag st)
    (note < 1 ∨ 255 < note → ran = refused .badValue)
    ∧ (1 ≤ note → note ≤ 255 →
        (s.jmu.state = .noJob → ran = refused .noJob)
        ∧ (∀ ph, s.jmu.state = .closing ph → ran = refused .closing)
        ∧ ∀ iv, s.jmu.state = .opened → s.slu.openIv = some iv →
            (iv.number < n → ran = refused .notFound)
            ∧ (n = iv.number → 3 ≤ iv.notes.length → ran = refused .tableFull)
            ∧ (n = iv.number → iv.notes.length < 3 →
                ran = .next (({ s with slu := { s.slu with openIv := some { iv with notes := iv.notes ++ [note] } } }
                  : State).sayOn ln 37 tag .ok))
            ∧ (n < iv.number →
                match s.lgu.parcels.find? (fun p => p.record.interval == n) with
                | none => ran = refused .tooLate
                | some p =>
                  (p.status = .finalWaiting → ran = refused .tooLate)
                  ∧ (p.status ≠ .finalWaiting → 3 ≤ p.record.notes.length → ran = refused .tableFull)
                  ∧ (p.status ≠ .finalWaiting → p.record.notes.length < 3 →
                      ran = .next (({ s with
                        lgu := { s.lgu with
                          parcels := s.lgu.parcels.map fun q =>
                            if q.record.interval = n then
                              { q with record := { q.record with notes := p.record.notes ++ [note] } }
                            else q } } : State).sayOn ln 37 tag .ok))))

/-! ### Metering, tariffs and jobs -/

/-- Downtime Start, Downtime End and Mix Report (R113, R114, R118). -/
def Obligations.DowntimeAndMixReports : Prop :=
  (∀ (ln : Link) (tag kind : Nat) (s : State), CanTake s ln .downtimeStart →
    exec (.downtimeStart ln tag kind) s = .next
      (if 1 < kind then s.sayOn ln 42 tag .badValue
       else
         match s.jmu.state with
         | .noJob => s.sayOn ln 42 tag .noJob
         | .closing _ => s.sayOn ln 42 tag .closing
         | .opened =>
           ({ s with
              jmu := { s.jmu with
                downtime := some
                  { kind := if kind = 0 then .rig else .client
                    start := match s.jmu.downtime with
                      | some x => x.start
                      | none => s.jmu.clock } } } : State).sayOn ln 42 tag .ok))
  ∧ (∀ (ln : Link) (tag : Nat) (s : State), CanTake s ln .downtimeEnd →
    exec (.downtimeEnd ln tag) s = .next
      (if s.jmu.downtime = none then s.sayOn ln 43 tag .wrongState
       else ({ s with jmu := { s.jmu with downtime := none } } : State).sayOn ln 43 tag .ok))
  ∧ ∀ (ln : Link) (tag litres : Nat) (entries : List (Nat × Nat)) (s : State), CanTake s ln .mixReport →
    let codesOk := entries.length ≤ 8 ∧ ∀ e ∈ entries, 1 ≤ e.1 ∧ e.1 ≤ 8
    (¬ codesOk → exec (.mixReport ln tag litres entries) s = .next (s.sayOn ln 44 tag .badValue))
    ∧ (codesOk → s.jmu.state ≠ .opened →
        exec (.mixReport ln tag litres entries) s = .next (s.sayOn ln 44 tag .noJob))
    ∧ (codesOk → s.jmu.state = .opened →
        ∃ sacks, exec (.mixReport ln tag litres entries) s = .next
            (({ s with
                jmu := { s.jmu with
                  sacks, mud := min 1099511627775 (s.jmu.mud + max 1 (min litres 100000) * 1000) } } : State).sayOn ln 44
              tag (if (1 ≤ litres ∧ litres ≤ 100000) ∧ ∀ e ∈ entries, 1 ≤ e.2 ∧ e.2 ≤ 500 then .ok else .clamped))
          ∧ ∀ i : Fin 8, s.jmu.sacks[i] ≤ 4294967295 →
              sacks[i] = min 4294967295 (s.jmu.sacks[i]
                + ((entries.filter fun e => e.1 = i.val + 1).map fun e => max 1 (min e.2 500)).sum))

/-- Set Tariffs (R126): the checks in order; prices, rates and charges held to 1,000,000 and the holds brought in.
That UNCONFIGURED fires before the reply is the model's choice (entry 17). -/
def Obligations.SettingTariffs : Prop :=
  ∀ (ln : Link) (tag : Nat) (x : Tariff) (dh th : Nat) (s : State), CanTake s ln .setTariffs →
    let ran := exec (.setTariffs ln tag x dh th) s
    (∀ ph, s.jmu.state = .closing ph → ran = .next (s.sayOn ln 46 tag .closing))
    ∧ ((∀ ph, s.jmu.state ≠ .closing ph) →
        (x.bounds[0] ≠ 0 ∨ (∃ b ∈ x.bounds.toList, 1500000 < b) ∨ strictlyRising x.bounds.toList = false →
          ran = .next (s.sayOn ln 46 tag .badValue))
        ∧ (x.bounds[0] = 0 → (∀ b ∈ x.bounds.toList, b ≤ 1500000) → strictlyRising x.bounds.toList = true →
          ∃ y : Tariff, ran = .next
              ((({ s with
                  jmu := { s.jmu with tariff := y, drillHold := max 30 (min dh 900), tripHold := max 60 (min th 1800) } }
                : State).mark fun m => { m with tariffs := true }).sayOn ln 46 tag
                (if y = x ∧ (30 ≤ dh ∧ dh ≤ 900) ∧ (60 ≤ th ∧ th ≤ 1800) then .ok else .clamped))
            ∧ y.bounds = x.bounds
            ∧ (∀ i : Fin 24, y.metre[i] = min x.metre[i] 1000000) ∧ (∀ i : Fin 7, y.hourly[i] = min x.hourly[i] 1000000)
            ∧ y.mud = min x.mud 1000000 ∧ y.lostVolume = min x.lostVolume 1000000
            ∧ (∀ i : Fin 8, y.additive[i] = min x.additive[i] 1000000)
            ∧ (∀ i : Fin 4, y.lostRod[i] = min x.lostRod[i] 1000000)
            ∧ y.lostBha = min x.lostBha 1000000 ∧ y.mobilisation = min x.mobilisation 1000000))

/-- The 47 lines of a statement and their amounts (R127, R128), the lost volume by the job state (R119), the saturating total
(R129), and the reply of Statement by the job state (R130). -/
def Obligations.StatementLinesAndReply : Prop :=
  (∀ (s : State) (prov : Bool),
    let x := s.compose prov
    let line (q p a : Nat) : StmtLine :=
      { qty := q, price := p, amount := min 4294967295 a, sat := decide (4294967295 < a) }
    let u := s.jmu
    let v := match u.state with
      | .opened => s.ccu.lost
      | _ => (s.ccu.close.map (·.lost)).getD 0
    x.lines.length = 47
    ∧ (∀ i : Fin 24, x.lines[i.val]? =
        some (line u.cells[i] u.tariff.metre[i] ((u.cells[i] * u.tariff.metre[i] + 500) / 1000)))
    ∧ (∀ i : Fin 7, x.lines[24 + i.val]? =
        some (line u.meters[i] u.tariff.hourly[i] ((u.meters[i] * u.tariff.hourly[i] + 1800) / 3600)))
    ∧ x.lines[31]? = some (line u.mud u.tariff.mud ((u.mud * u.tariff.mud + 500000) / 1000000))
    ∧ x.lines[32]? = some (line v u.tariff.lostVolume ((v * u.tariff.lostVolume + 500000) / 1000000))
    ∧ (∀ i : Fin 8, x.lines[33 + i.val]? =
        some (line u.sacks[i] u.tariff.additive[i] (u.sacks[i] * u.tariff.additive[i])))
    ∧ (∀ i : Fin 4, x.lines[41 + i.val]? =
        some (line u.lostRods[i] u.tariff.lostRod[i] (u.lostRods[i] * u.tariff.lostRod[i])))
    ∧ x.lines[45]? = some (line u.lostBha u.tariff.lostBha (u.lostBha * u.tariff.lostBha))
    ∧ x.lines[46]? = some (line 1 u.tariff.mobilisation u.tariff.mobilisation)
    ∧ x.total = min 4294967295 (x.lines.map (·.amount)).sum
    ∧ ((∃ l ∈ x.lines, l.sat = true) ∨ 4294967295 < (x.lines.map (·.amount)).sum → x.saturated = true)
    ∧ ((∀ l ∈ x.lines, l.sat = false) → (x.lines.map (·.amount)).sum < 4294967295 → x.saturated = false)
    ∧ x.provisional = prov ∧ x.clock = u.clock ∧ x.hole = s.str.hole ∧ (∀ id, u.ident = some id → x.ident = id)
    ∧ x.pendingMm = (if prov = true then u.pendingMm else 0))
  ∧ ∀ (ln : Link) (tag : Nat) (s : State), CanTake s ln .statement →
    exec (.statement ln tag) s = .next
      (match s.jmu.state, s.jmu.finalStmt with
       | .opened, _ => s.reply ln ⟨47, tag, .ok, statementParts (s.compose true)⟩
       | _, some x => s.reply ln ⟨47, tag, .ok, statementParts x⟩
       | _, none => s.sayOn ln 47 tag .noJob)

/-- Job Open (R132, R133, R57, R107, R123, R156): the checks in order, and every unit's state at an accepted open.
That QUEUE_NEAR_FULL fires before the reply is the model's choice (entry 17). -/
def Obligations.OpeningAJob : Prop :=
  ∀ (ln : Link) (tag job client start : Nat) (s : State), CanTake s ln .jobOpen →
    exec (.jobOpen ln tag job client start) s = .next
      (match s.jmu.state with
       | .opened => s.sayOn ln 48 tag .jobOpen
       | .closing _ => s.sayOn ln 48 tag .closing
       | .noJob =>
         if job < 1 ∨ 65535 < job ∨ 1500000 < start then s.sayOn ln 48 tag .badValue
         else if s.rst.unconfigured = true then s.sayOn ln 48 tag .unconfigured
         else if start < s.str.d then s.sayOn ln 48 tag .belowBit
         else
           let restart (p : Pump) : Pump := { p with strokes := 0, vol := 0, rem := 0 }
           let told := if s.lgu.nearRaw = true then s.fire .queueNearFull (.raw false) else s
           let next := s.rst.areas.strata.greatest + 1
           ({ told with
              str := { s.str with hole := start }
              ccu := { s.ccu with
                p1 := restart s.ccu.p1, p2 := restart s.ccu.p2, returned := 0, lift := 0, lost := 0, gain := 0, pw := 0
                rw := 0, lastCand := none, lastFrac := none, close := none }
              lgu := { s.lgu with parcels := [], lastAnnulus := none, nearRaw := false }
              slu := { s.slu with
                anchor := some start, closed := 0, overflow := [], lastClass := none
                openIv := some { number := 0, top := start, bottom := start + s.slu.step, drilled := 0, seconds := 0
                                 worst := s.ccu.state, strike := none, notes := [] } }
              jmu := { s.jmu with
                state := .opened, ident := some ⟨job, client, start⟩, finalStmt := none, record := none, clock := 0
                meters := Vector.replicate 7 0, pendingMm := 0, cells := Vector.replicate 24 0, mud := 0
                sacks := Vector.replicate 8 0, lostBha := 0, lostRods := Vector.replicate 4 0, downtime := none
                lastActivity := none }
              rst := { s.rst with
                protect := some
                  (if s.rst.areas.strata.get s.rst.strataPos = none then
                     (s.rst.areas.strata.seq (s.rst.strataPos / 256)).getD next else next) } } : State).sayOn ln 48 tag
             .ok)

/-- Job Close (R134, R135, R92, R107, R58): refused by name outside OPEN; else the partial interval, if anything was drilled in
it, and then every unfinished parcel become final as UNSAMPLED_AT_CLOSE, are classified and offered in order, pending stands
at 0, the figures are copied, the downtime ended, the final statement and job record composed from what stands. -/
def Obligations.ClosingAJob : Prop :=
  ∀ (ln : Link) (tag : Nat) (s : State), CanTake s ln .jobClose →
    let unsampled (r : StrataRec) : StrataRec :=
      { r with status := some .unsampledAtClose, rock := .unknown, lith := none, colour := none }
    let partialRec : List StrataRec := match s.slu.openIv with
      | some iv =>
        if iv.drilled = 0 then []
        else [{ job := (s.jmu.ident.map (·.number)).getD 0, interval := iv.number, top := iv.top, bottom := s.str.hole
                seconds := iv.seconds
                rate := if iv.seconds = 0 then none else some ((s.str.hole - iv.top) * 60 / iv.seconds)
                worst := iv.worst, strike := iv.strike, lith := none, colour := none, rock := .unknown
                status := some .unsampledAtClose, notes := iv.notes, closeTime := s.jmu.clock }]
      | none => []
    let final := partialRec
      ++ ((s.lgu.parcels.filter fun p => p.status != .finalWaiting).map fun p => unsampled p.record)
    (s.jmu.state = .noJob → exec (.jobClose ln tag) s = .next (s.sayOn ln 49 tag .noJob))
    ∧ (∀ ph, s.jmu.state = .closing ph → exec (.jobClose ln tag) s = .next (s.sayOn ln 49 tag .closing))
    ∧ (s.jmu.state = .opened → ∃ (t : State) (x : Statement) (r : JobRecord), exec (.jobClose ln tag) s = .next (t.sayOn ln 49 tag .ok)
        ∧ t.slu.openIv = none
        ∧ (∀ iv, s.slu.openIv = some iv → t.slu.closed = s.slu.closed + (if iv.drilled = 0 then 0 else 1))
        ∧ (∀ p ∈ t.lgu.parcels, p.status = .finalWaiting)
        ∧ (QueueOk s →
            t.jmu.pendingMm = s.jmu.pendingMm - (final.map fun r => r.bottom - r.top).sum
            ∧ t.jmu.cells =
                final.foldl (fun c r => creditCells s.jmu.tariff.bounds r.top r.bottom .unknown c) s.jmu.cells
            ∧ (s.rst.ctl ≠ .failed → (∀ e, s.rst.startOf e ≠ .blocked) → s.rst.queue.length + final.length ≤ 12 →
                t.rst.queue = s.rst.queue ++ final.map (fun r => ⟨.strata r, 0⟩)
                    ++ (if t.jmu.state = .closing .offered then [⟨.job r, 0⟩] else [])
                ∧ t.lgu.parcels = s.lgu.parcels.filter (fun p => p.status == .finalWaiting)
                ∧ t.slu.overflow = s.slu.overflow)
            ∧ (s.rst.ctl ≠ .failed → s.rst.ctl ≠ .ready → 12 ≤ s.rst.queue.length →
                t.rst.queue = s.rst.queue
                ∧ t.lgu.parcels = s.lgu.parcels.map (fun p =>
                    if p.status = .finalWaiting then p
                    else { p with status := .finalWaiting, record := unsampled p.record })
                ∧ t.slu.overflow = (if s.slu.overflow.length < 4 then s.slu.overflow ++ partialRec else s.slu.overflow)))
        ∧ (BalanceOk s → t.jmu.pendingMm = 0)
        ∧ t.ccu = { s.ccu with
            close := some
              { strokes1 := s.ccu.p1.strokes, vol1 := s.ccu.p1.vol, strokes2 := s.ccu.p2.strokes, vol2 := s.ccu.p2.vol
                returned := s.ccu.returned, lost := s.ccu.lost, gain := s.ccu.gain } }
        ∧ t.jmu = { s.jmu with
            state := t.jmu.state, downtime := none, finalStmt := some x, record := some r
            pendingMm := t.jmu.pendingMm, cells := t.jmu.cells }
        ∧ x = t.compose false
        ∧ r.ident = x.ident ∧ r.hole = s.str.hole ∧ r.clock = s.jmu.clock ∧ r.meters = s.jmu.meters
        ∧ r.cells = t.jmu.cells ∧ r.bounds = s.jmu.tariff.bounds ∧ r.mud = s.jmu.mud ∧ r.sacks = s.jmu.sacks
        ∧ r.lostVolume = s.ccu.lost ∧ r.lostBha = s.jmu.lostBha ∧ r.lostRods = s.jmu.lostRods
        ∧ some r.figures = t.ccu.close ∧ r.amounts = x.lines.map (fun l => (l.amount, l.sat)) ∧ r.total = x.total
        ∧ r.saturated = x.saturated ∧ r.intervals = t.slu.closed
        ∧ (s.rst.ctl ≠ .failed → ∃ ph, t.jmu.state = .closing ph)
        ∧ (s.rst.ctl = .failed → s.rst.queue = [] → s.slu.overflow = [] →
            (∀ p ∈ s.lgu.parcels, p.status ≠ .finalWaiting) → t.jmu.state = .noJob ∧ t.rst.protect = none)
        ∧ t.str = s.str ∧ t.cxu = s.cxu ∧ t.flu = s.flu ∧ t.tick = s.tick)

/-! ### The record store -/

/-- ERASE_COMPLETE and WRITE_COMPLETE with a verify that passes (R144 to R146, R136, R140, R141, R149, R150): the reads that
wait are served, those of a suspension too; a written slot holds the entry, the position moves past it, the entry leaves and
its departure is handed on (the round of re-offers, then the release check, or the end of the job whose record it was), and
the next head is taken. That ERASE_COMPLETE in ERASE_SUSPENDED ends the services first and goes to WRITING is the model's
choice (entry 30). The time that has passed and the result of the verify are operands (entries 6, 37 and 41); outside their
states the two commands only let the time pass, the model's choice (entry 8). -/
def Obligations.ErasesAndWritesComplete : Prop :=
  (∀ (after : Nat) (s : State), s.power = .on →
    let u : State := { s with now := s.now + after }
    (∀ e, s.rst.ctl = .erasing e ∨ s.rst.ctl = .suspended e →
      exec (.eraseComplete after) s = .next { u.serveReads with rst := { s.rst with readList := [], ctl := .writing } })
    ∧ ((∀ e, s.rst.ctl ≠ .erasing e ∧ s.rst.ctl ≠ .suspended e) → exec (.eraseComplete after) s = .next u)
    ∧ ∀ verified, s.rst.ctl ≠ .writing ∨ s.rst.queue = [] → exec (.writeComplete verified after) s = .next u)
  ∧ (∀ s : State,
      (s.rst.readList = [] → s.serveReads = s)
      ∧ ∀ p rest, s.rst.readList = p :: rest →
          s.serveReads =
            (let served := serve p.req { s with rst := { s.rst with readList := rest } }
             served.1.reply p.ln ⟨p.req.kind.number, p.tag, served.2.1, [served.2.2]⟩).serveReads)
  ∧ (∀ (after : Nat) (s : State) (e : Entry) (rest : List Entry), s.power = .on → s.rst.ctl = .writing →
      s.rst.queue = e :: rest →
      let done (areas : Areas) (strataPos jobsPos : Nat) : State :=
        { s with now := s.now + after, rst := { s.rst with areas, strataPos, jobsPos, queue := rest, ctl := .ready } }
      let handed (t : State) : State := (reoffer t.waiting t).releaseCheck
      match e.body with
      | .strata r => exec (.writeComplete true after) s = .next
          (handed (done { s.rst.areas with strata := s.rst.areas.strata.write s.rst.strataPos (.written r 0) }
            (if s.rst.strataPos + 1 < 8192 then s.rst.strataPos + 1 else 0) s.rst.jobsPos)).serveReads.takeHead
      | .job r => exec (.writeComplete true after) s = .next
          (let d := done { s.rst.areas with jobs := s.rst.areas.jobs.write s.rst.jobsPos (.written r 0) }
            s.rst.strataPos (if s.rst.jobsPos + 1 < 64 then s.rst.jobsPos + 1 else 0)
           let t := reoffer d.waiting d
           ({ t with jmu := { t.jmu with state := .noJob }, rst := { t.rst with protect := none } }
             : State).serveReads.takeHead)
      | .settings img => exec (.writeComplete true after) s = .next
          (handed (done { s.rst.areas with settings := s.rst.areas.settings.put e.failures (some (.written img 0)) }
            s.rst.strataPos s.rst.jobsPos)).serveReads.takeHead
      | .rods items => exec (.writeComplete true after) s = .next
          (handed (done { s.rst.areas with rods := s.rst.areas.rods.put e.failures (some (.written items 0)) }
            s.rst.strataPos s.rst.jobsPos)).serveReads.takeHead)
  ∧ ∀ (ring : Ring 32 256 StrataRec) (i j : Nat) (x : Slot StrataRec), i < 8192 →
      (ring.write i x).get j = (if j = i then some x else ring.get j)
      ∧ ((ring.write i x).seq (i / 256) = some ((ring.seq (i / 256)).getD (ring.greatest + 1)))
      ∧ (j / 256 ≠ i / 256 → (ring.write i x).seq (j / 256) = ring.seq (j / 256))

/-- WRITE_COMPLETE with a verify that fails (R147, R148): the first failure of an entry leaves a VOID slot and goes on to a
blank next slot; the second makes the controller FAILED and drops every entry and every waiting record.
The time that has passed and the result of the verify are operands (entries 6, 37 and 41); the COMMIT_DROPPED firings are
left out here. -/
def Obligations.VerifyFailures : Prop :=
  ∀ (after : Nat) (s : State) (e : Entry) (rest : List Entry), s.power = .on → s.rst.ctl = .writing →
    s.rst.queue = e :: rest →
    (e.failures = 0 → s.rst.readList = [] → (s.rst.putTarget e false).startOf { e with failures := 1 } = .write →
      exec (.writeComplete false after) s = .next
        { s with
          now := s.now + after
          rst := { s.rst.putTarget e false with
            queue := { e with failures := 1 } :: rest, voidCount := s.rst.voidCount + 1, ctl := .writing } })
    ∧ (∀ r, e.body = .strata r → s.rst.strataPos < 8192 →
        (s.rst.putTarget e false).areas.strata.get s.rst.strataPos = some .void
        ∧ (s.rst.putTarget e false).strataPos = (if s.rst.strataPos + 1 < 8192 then s.rst.strataPos + 1 else 0))
    ∧ (e.failures = 1 → QueueOk s → ∃ t, exec (.writeComplete false after) s = .next t
        ∧ t.rst = { s.rst.putTarget e false with
            ctl := .failed, queue := [], readList := [], voidCount := s.rst.voidCount + 1, protect := t.rst.protect }
        ∧ t.slu.overflow = [] ∧ t.lgu.parcels = s.lgu.parcels.filter (fun p => p.status != .finalWaiting)
        ∧ (∀ x ∈ e :: rest, ∀ r, x.body = .job r → t.jmu.state = .noJob ∧ t.rst.protect = none)
        ∧ t.rawValue .storeFailed = true
        ∧ (s.jmu.state = .opened → (∀ x ∈ e :: rest, ∀ r, x.body ≠ .job r) → t.jmu = s.jmu)
        ∧ t.str = s.str ∧ t.cxu = s.cxu ∧ t.ccu = s.ccu ∧ t.flu = s.flu)

/-! ### Field lines -/

/-- Set Line Function and Drive General Output (R160, R161, R166): the checks in order; the line's new record, its output
level DEASSERTED, its level unsettled; FL5 with ENCODER; the slips released with the old SLIPS; the counts kept.
A claimed FL5 is not counted as another line that holds ENCODER (entry 22), and the firings of a slips release come before the
reply (entry 17): both are the model's choice. -/
def Obligations.SettingLineFunctions : Prop :=
  (∀ (ln : Link) (tag line function polarity filter : Nat) (s : State), CanTake s ln .setLineFunction →
    let ran := exec (.setLineFunction ln tag line function polarity filter) s
    (11 < line ∨ 11 < function ∨ 1 < polarity → ran = .next (s.sayOn ln 56 tag .badValue))
    ∧ ∀ (i : Fin 12) fn pol, i.val = line → LineFn.ofCode function = some fn → Polarity.ofCode polarity = some pol →
        (fn.allowedOn i = false → ran = .next (s.sayOn ln 56 tag .badValue))
        ∧ (fn.allowedOn i = true → i = 5 → (s.flu.line 5).claimed = true →
            ran = .next (s.sayOn ln 56 tag .wrongState))
        ∧ (fn.allowedOn i = true → (i = 5 → (s.flu.line 5).claimed = false) →
            (fn ≠ .generalIn ∧ fn ≠ .generalOut
              ∧ ∃ j, j ≠ i ∧ (s.flu.line j).cfg.fn = fn ∧ (s.flu.line j).claimed = false) →
            ran = .next (s.sayOn ln 56 tag .duplicate))
        ∧ (fn.allowedOn i = true → (i = 5 → (s.flu.line 5).claimed = false) →
            ¬ (fn ≠ .generalIn ∧ fn ≠ .generalOut
              ∧ ∃ j, j ≠ i ∧ (s.flu.line j).cfg.fn = fn ∧ (s.flu.line j).claimed = false) →
            let old := (s.flu.line i).cfg.fn
            let cfg : LineCfg :=
              { fn, pol
                filter :=
                  if fn.isInput = true then some (if filter = 0 then fn.defaultFilter else max 5 (min filter 200))
                  else none }
            let fresh (r : LineRec) (claimed : Bool) : LineRec :=
              { r with cfg, claimed, filtered := none, stableSince := s.now, general := .deasserted }
            ∃ flu, ran =
                .next (({ (if old = .slips ∧ s.str.slips = .set then s.slipsReleasedEdge else s) with flu } : State).sayOn
                  ln 56 tag (if fn.isInput = true ∧ filter ≠ 0 ∧ (filter < 5 ∨ 200 < filter) then .clamped else .ok))
              ∧ flu.line i = fresh (s.flu.line i) false
              ∧ (∀ j, j ≠ i → j ≠ 5 → flu.line j = s.flu.line j)
              ∧ (i ≠ 5 → fn = .encoder → flu.line 5 = fresh (s.flu.line 5) true)
              ∧ (i ≠ 5 → fn ≠ .encoder → old = .encoder →
                  (flu.line 5).cfg = ⟨.generalIn, (s.flu.line 5).cfg.pol, some 100⟩
                    ∧ (flu.line 5).claimed = false ∧ (flu.line 5).filtered = none
                    ∧ (flu.line 5).pin = (s.flu.line 5).pin)
              ∧ (i ≠ 5 → fn ≠ .encoder → old ≠ .encoder → flu.line 5 = s.flu.line 5)
              ∧ flu.encoderCount = s.flu.encoderCount ∧ flu.illegalSteps = s.flu.illegalSteps
              ∧ flu.lastStroke1 = s.flu.lastStroke1 ∧ flu.lastStroke2 = s.flu.lastStroke2
              ∧ flu.ignored1 = s.flu.ignored1 ∧ flu.ignored2 = s.flu.ignored2
              ∧ flu.encRef = (if old = .encoder then none else s.flu.encRef)))
  ∧ ∀ (ln : Link) (tag line level : Nat) (s : State), CanTake s ln .driveGeneralOutput →
    (11 < line ∨ 1 < level →
      exec (.driveGeneralOutput ln tag line level) s = .next (s.sayOn ln 57 tag .badValue))
    ∧ ∀ i : Fin 12, i.val = line → level ≤ 1 →
        exec (.driveGeneralOutput ln tag line level) s = .next
          (if (s.flu.line i).cfg.fn = .generalOut then
             ({ s with
                flu := { s.flu with
                  lines := s.flu.lines.set i
                    { s.flu.line i with general := if level = 0 then .asserted else .deasserted } } } : State).sayOn ln
               57 tag .ok
           else s.sayOn ln 57 tag .wrongState)

/-- PIN_LEVEL_CHANGE and INPUT_FILTER_EXPIRY on a single line (R162, R163, R164, R48): the stability time, settling, accepted
changes by function, and the dead time. At exactly 150 ms an edge is accepted (entry 7). The operand moves the present time, and an expiry moves it to the line's
deadline, the model's choice (entry 6). -/
def Obligations.PinsAndFilters : Prop :=
  (∀ (i : Fin 12) (high : Bool) (after : Nat) (s : State), s.power = .on →
    exec (.pinLevelChange i high after) s = .next
      (if (s.flu.line i).pin = high then { s with now := s.now + after }
       else
         { s with
           now := s.now + after
           flu := { s.flu with
             lines := s.flu.lines.set i { s.flu.line i with pin := high, stableSince := s.now + after } } }))
  ∧ (∀ (i : Fin 12) (s : State), s.power = .on → (s.flu.line i).cfg.fn.isInput = false →
      exec (.inputFilterExpiry i) s = .next s)
  ∧ ∀ (i : Fin 12) (s : State) (active : Bool), s.power = .on → (s.flu.line i).cfg.fn.isInput = true →
      (s.flu.line i).cfg.fn ≠ .encoder →
      active = ((s.flu.line i).pin == decide ((s.flu.line i).cfg.pol = .activeHigh)) →
      let fn := (s.flu.line i).cfg.fn
      let u : State := { s with now := max s.now ((s.flu.line i).stableSince + (s.flu.line i).cfg.filter.getD 0) }
      let v : State := { u with
        flu := { s.flu with lines := s.flu.lines.set i { s.flu.line i with filtered := some active } } }
      let slipsSet : State :=
        let t : State := { v with str := { s.str with slips := .set } }
        if s.str.slips = .set then t else t.fire .slipsSet (.raw true)
      ((s.flu.line i).filtered = some active → exec (.inputFilterExpiry i) s = .next u)
      ∧ ((s.flu.line i).filtered = none →
          exec (.inputFilterExpiry i) s = .next (if fn = .slips ∧ active = true then slipsSet else v))
      ∧ ((s.flu.line i).filtered = some (!active) →
          (fn = .generalIn → exec (.inputFilterExpiry i) s = .next v)
          ∧ (fn = .slips →
              exec (.inputFilterExpiry i) s = .next (if active = true then slipsSet else v.slipsReleasedEdge))
          ∧ (fn = .returnFlow → exec (.inputFilterExpiry i) s = .next
              (if active = true then
                 { v with
                   ccu := { s.ccu with
                     returned := min 1099511627775 (s.ccu.returned + s.ccu.limits.pulse)
                     rw := if s.ccu.state = .idle then s.ccu.rw else s.ccu.rw + s.ccu.limits.pulse } }
               else v))
          ∧ (fn = .stroke1 → exec (.inputFilterExpiry i) s = .next
              (if active = false then v
               else
                 match s.flu.lastStroke1 with
                 | some t =>
                   if u.now - t < 1500 then { v with flu := { v.flu with ignored1 := min 65535 (s.flu.ignored1 + 1) } }
                   else ({ v with flu := { v.flu with lastStroke1 := some u.now } } : State).stroke .one
                 | none => ({ v with flu := { v.flu with lastStroke1 := some u.now } } : State).stroke .one))
          ∧ (fn = .stroke2 → exec (.inputFilterExpiry i) s = .next
              (if active = false then v
               else
                 match s.flu.lastStroke2 with
                 | some t =>
                   if u.now - t < 1500 then { v with flu := { v.flu with ignored2 := min 65535 (s.flu.ignored2 + 1) } }
                   else ({ v with flu := { v.flu with lastStroke2 := some u.now } } : State).stroke .two
                 | none => ({ v with flu := { v.flu with lastStroke2 := some u.now } } : State).stroke .two)))

/-- The block encoder, the depths and depth status (R165, R12, R13, R14, R17): a step of one channel moves the count by one
and the height with it; a step of both is illegal, counted, and faults the depth; the first settled pair is the reference; d
follows the height, in range, while it may, and the hole depth rule follows d. At a slips release d takes the computed value
within the tolerance, and the hole depth rule follows; past it the offset takes the difference up and DEPTH_JUMP fires. The
Connection Unit then takes the edge. What an edge on RELEASED slips does is entry 35; a filter's expiry
moves the time to its deadline, entry 6, and two channels with one deadline are accepted at once, entry 36. -/
def Obligations.EncoderAndDepths : Prop :=
  (∀ (s : State) (old pair : Bool × Bool), s.flu.encRef = some old →
    let c := s.flu.encoderCount
    let up := (old, pair) ∈ [((false, false), (true, false)), ((true, false), (true, true)),
      ((true, true), (false, true)), ((false, true), (false, false))]
    let moved (c' : Int) : State := { s with flu := { s.flu with encRef := some pair, encoderCount := c' } }
    (old = pair → s.encoderPair pair = s)
    ∧ (old.1 ≠ pair.1 → old.2 ≠ pair.2 →
      s.encoderPair pair =
        (let t : State := { s with
          flu := { s.flu with encRef := some pair, illegalSteps := min 65535 (s.flu.illegalSteps + 1) }
          str := { s.str with depth := .faulted } }
         if s.str.depth = .faulted then t else t.fire .depthFault (.raw true)))
    ∧ ((old.1 ≠ pair.1 ↔ old.2 = pair.2) →
        (up → s.encoderPair pair = (moved (min 2147483647 (c + 1))).afterHeight s.height)
        ∧ (¬ up → s.encoderPair pair = (moved (max (-2147483648) (c - 1))).afterHeight s.height)))
  ∧ (∀ (s : State) (pair : Bool × Bool), s.flu.encRef = none →
      s.encoderPair pair = { s with flu := { s.flu with encRef := some pair } })
  ∧ (∀ (s : State) (i : Fin 12), s.power = .on → i = 4 ∨ i = 5 → (s.flu.line i).cfg.fn = .encoder →
      let j : Fin 12 := if i = 4 then 5 else 4
      let end_ (k : Fin 12) := (s.flu.line k).stableSince + (s.flu.line k).cfg.filter.getD 0
      let u : State := { s with now := max s.now (end_ i) }
      let new (k : Fin 12) : Bool := (s.flu.line k).pin == decide ((s.flu.line k).cfg.pol = .activeHigh)
      let take (k : Fin 12) (v : Vector LineRec 12) := v.set k { s.flu.line k with filtered := some (new k) }
      ((s.flu.line i).filtered = some (new i) → exec (.inputFilterExpiry i) s = .next u)
      ∧ ((s.flu.line i).filtered ≠ some (new i) →
          ((s.flu.line j).filtered = some (new j) ∨ end_ j ≠ end_ i →
            let taken : State := { u with flu := { s.flu with lines := take i s.flu.lines } }
            ((s.flu.line j).filtered = none → exec (.inputFilterExpiry i) s = .next taken)
            ∧ ∀ other, (s.flu.line j).filtered = some other →
                exec (.inputFilterExpiry i) s =
                  .next (taken.encoderPair (if i = 4 then (new 4, other) else (other, new 5))))
          ∧ ((s.flu.line j).filtered ≠ some (new j) → end_ j = end_ i →
              exec (.inputFilterExpiry i) s = .next
                (({ u with flu := { s.flu with lines := take j (take i s.flu.lines) } } : State).encoderPair
                  (new 4, new 5)))))
  ∧ (∀ (s : State) (before : Nat),
      (s.height = before ∨ s.str.slips = .set ∨ s.str.depth = .faulted → s.afterHeight before = s)
      ∧ (s.height ≠ before → s.str.slips = .released → s.str.depth = .reliable → s.str.length - s.height ≤ maxDepth →
          let d := if s.str.bha = none then min (s.str.length - s.height) s.str.hole else s.str.length - s.height
          s.afterHeight before = ({ s with str := { s.str with d } } : State).holeRule
          ∧ (s.afterHeight before).str.d = d
          ∧ (s.afterHeight before).str.hole =
              (if s.str.bha = none then s.str.hole else max s.str.hole (s.str.length - s.height))))
  ∧ ∀ s : State,
      let c := s.str.length - s.height
      let diff : Int := (c : Int) - s.str.d
      let released (offset : Int) : State :=
        ({ s with str := { s.str with slips := .released, offset } } : State).fire .slipsSet (.raw false)
      (s.str.slips = .released → s.slipsReleasedEdge = s.connReleased)
      ∧ (s.str.slips = .set → s.str.depth = .faulted → s.slipsReleasedEdge = (released s.str.offset).connReleased)
      ∧ (s.str.slips = .set → s.str.depth = .reliable →
          (s.str.tol < diff.natAbs →
            s.slipsReleasedEdge = ((released (s.str.offset + diff)).fire .depthJump (.jump diff)).connReleased)
          ∧ (diff.natAbs ≤ s.str.tol → c ≤ maxDepth →
              let d := if s.str.bha = none then min c s.str.hole else c
              let r := released s.str.offset
              s.slipsReleasedEdge = ({ r with str := { r.str with d } } : State).holeRule.connReleased
              ∧ s.slipsReleasedEdge.str =
                { s.str with
                  slips := .released, d
                  hole := if s.str.bha = none then s.str.hole else max s.str.hole c }
              ∧ (s.str.bha = none ∨ c ≤ s.str.hole →
                  s.slipsReleasedEdge =
                    { (released s.str.offset).connReleased with str := s.slipsReleasedEdge.str })))

/-! ### Links and notices -/

/-- Link Reset, Set Notice Masks and Clear Notices (R176, R181, R182, R149): each acts on its own link; no other unit changes
but for a reset link's read in the store's list, which leaves it without a reply. A read in service is completed, and the
erase resumes when no read is left (R149, R150); that what it corrected fires before the link's queue, latches and masks are
reset is the model's choice (entry 56), and entry 30 says how long a read is in service. -/
def Obligations.ResettingMaskingClearing : Prop :=
  (∀ (ln : Link) (tag : Nat) (s : State), s.Ready → s.repliesFull ln = false →
    let left := s.rst.readList.filter fun p => p.ln != ln
    let reset (t : State) : State :=
      (t.modLink ln fun l =>
        { l with
          notices := [], latches := Vector.replicate 23 none, owed := false, masks := Vector.replicate 23 true
          latchWhileMasked := false, state := .active }).sayOn ln 59 tag .ok
    ((∀ e, s.rst.ctl ≠ .suspended e) →
      exec (.linkReset ln tag) s = .next (reset { s with rst := { s.rst with readList := left } }))
    ∧ ∀ e, s.rst.ctl = .suspended e →
        let ctl : Ctl := if left = [] then .erasing { e with since := s.now } else .suspended e
        let after (t : State) : State := { t with rst := { s.rst with readList := left, ctl } }
        (∀ p rest, s.rst.readList = p :: rest → p.ln = ln →
          exec (.linkReset ln tag) s = .next (reset (after (serve p.req s).1)))
        ∧ ((∀ p rest, s.rst.readList = p :: rest → p.ln ≠ ln) →
          exec (.linkReset ln tag) s = .next (reset (after s))))
  ∧ (∀ (ln : Link) (tag : Nat) (conds : List Nat) (opt : Bool) (s : State), CanTake s ln .setNoticeMasks →
    ((∃ n ∈ conds, n < 1 ∨ 23 < n) →
      exec (.setNoticeMasks ln tag conds opt) s = .next (s.sayOn ln 62 tag .badValue))
    ∧ ((∀ n ∈ conds, 1 ≤ n ∧ n ≤ 23) → conds.length ≤ 23 →
        ∃ l : LinkRec, exec (.setNoticeMasks ln tag conds opt) s = .next ((s.modLink ln fun _ => l).sayOn ln 62 tag .ok)
          ∧ (∀ c, l.masked c = !(conds.contains c.number)) ∧ l.latchWhileMasked = opt
          ∧ (∀ c, c ≠ .noticeOverflow → l.latch c = (s.link ln).latch c)
          ∧ l.rx = (s.link ln).rx ∧ l.state = (s.link ln).state
          ∧ let queued : List Notice := Cond.all.filterMap fun c =>
              if (s.link ln).masked c = true ∧ conds.contains c.number = true then
                ((s.link ln).latch c).map fun x => ⟨c, x.content, x.seconds⟩
              else none
            (s.link ln).sending.isSome = true → (s.link ln).notices.length + queued.length ≤ 16 →
              l = { s.link ln with masks := l.masks, latchWhileMasked := opt, notices := (s.link ln).notices ++ queued }))
  ∧ ∀ (ln : Link) (tag : Nat) (conds : List Nat) (s : State), CanTake s ln .clearNotices →
    ((∃ n ∈ conds, n < 1 ∨ 23 < n) →
      exec (.clearNotices ln tag conds) s = .next (s.sayOn ln 63 tag .badValue))
    ∧ ((∀ n ∈ conds, 1 ≤ n ∧ n ≤ 23) → conds.length ≤ 23 →
        ∃ latches, exec (.clearNotices ln tag conds) s = .next
            ((s.modLink ln fun l => { l with latches, owed := l.owed && !(conds.contains 23) }).sayOn ln 63 tag .ok)
          ∧ ∀ c : Cond, latches[c.idx] = if conds.contains c.number = true then none else (s.link ln).latch c)

/-- A firing at one link (R179, R180, R184) and at the four (R178): what the latch, the mask and the option make of it, a full
queue, the overflow condition, and the attention output. -/
def Obligations.FiringAndLatching : Prop :=
  (∀ (l : LinkRec) (c : Cond) (content : Content) (clock : Nat),
    let x : Latch := ⟨content, clock⟩
    let frame : Notice := ⟨c, content, clock⟩
    let set := { l with latches := l.latches.set c.idx (some x) }
    (l.latch c ≠ none → l.fire c content clock = l)
    ∧ (l.latch c = none → l.masked c = true →
        l.fire c content clock = if l.latchWhileMasked = true then set else l)
    ∧ (l.latch c = none → l.masked c = false → l.notices.length < 16 →
        (l.sending ≠ none → l.fire c content clock = { set with notices := l.notices ++ [frame] })
        ∧ (l.sending = none → l.replies = [] → l.notices = [] → l.owed = false →
            l.fire c content clock = { set with sending := some (.notice frame) }))
    ∧ (l.latch c = none → l.masked c = false → 16 ≤ l.notices.length → c ≠ .noticeOverflow →
        let lost := { set with lost := min 65535 (l.lost + 1) }
        let ovf : Latch := ⟨.lostFrame c, clock⟩
        let told := { lost with latches := lost.latches.set Cond.noticeOverflow.idx (some ovf) }
        (l.latch .noticeOverflow ≠ none → l.fire c content clock = lost)
        ∧ (l.latch .noticeOverflow = none → l.masked .noticeOverflow = false →
            l.fire c content clock = { told with owed := true })
        ∧ (l.latch .noticeOverflow = none → l.masked .noticeOverflow = true →
            l.fire c content clock = if l.latchWhileMasked = true then told else lost))
    ∧ (l.attention = true ↔ ∃ c : Cond, l.latch c ≠ none ∧ l.masked c = false))
  ∧ ∀ (s : State) (c : Cond) (content : Content),
      (∀ ln, (s.fire c content).link ln = (s.link ln).fire c content s.jmu.clock)
      ∧ s.fire c content = { s with liu := (s.fire c content).liu } ∧ (s.fire c content).liu.speed = s.liu.speed

/-- TRANSMISSION_END, BYTE_ARRIVAL, INTER_BYTE_TIMEOUT and FRAME_DISCARD (R175, R180, R170, R171): what the transmitter sends
next, and when a receiver begins, keeps or discards a frame.
The two discard commands act whatever the moment, while receivers are enabled (entries 8 and 34); the operand and the timeout
move the present time (entry 6), and a byte before the load completes is not received (entry 3). -/
def Obligations.TransmitterAndReceiver : Prop :=
  (∀ (ln : Link) (s : State), s.power = .on → ∃ l, exec (.transmissionEnd ln) s = .next (s.modLink ln fun _ => l)
    ∧ ((s.link ln).sending = none → l = s.link ln)
    ∧ (∀ r part, (s.link ln).sending = some (.reply r part) → part + 1 < r.parts.length →
        l = { s.link ln with sending := some (.reply r (part + 1)) })
    ∧ ((∀ r part, (s.link ln).sending = some (.reply r part) → r.parts.length ≤ part + 1) →
        (s.link ln).sending ≠ none →
        (∀ r rs, (s.link ln).replies = r :: rs →
          l = { s.link ln with replies := rs, sending := some (.reply r 0) })
        ∧ ((s.link ln).replies = [] → (s.link ln).notices = [] → l = { s.link ln with sending := none })
        ∧ ∀ n ns, (s.link ln).replies = [] → (s.link ln).notices = n :: ns →
            l = { s.link ln with
              sending := some (.notice n), owed := false
              notices := ns ++
                match (s.link ln).latch .noticeOverflow with
                | some x =>
                  if (s.link ln).owed = true ∧ (s.link ln).masked .noticeOverflow = false then
                    [⟨.noticeOverflow, x.content, x.seconds⟩]
                  else []
                | none => [] }))
  ∧ (∀ (ln : Link) (b : Byte) (after : Nat) (s : State), s.power = .on →
      let u : State := { s with now := s.now + after }
      (s.loaded = false → exec (.byteArrival ln b after) s = .next u)
      ∧ (s.loaded = true →
          ((s.link ln).rx = .hunting → exec (.byteArrival ln b after) s = .next
            (if b = 165 then u.modLink ln fun l => { l with rx := .inFrame [] u.now } else u))
          ∧ ∀ bytes last, (s.link ln).rx = .inFrame bytes last →
              (last + 200 < u.now → exec (.byteArrival ln b after) s = .next
                (if b = 165 then (u.discardFrame ln .timeout).modLink ln fun l => { l with rx := .inFrame [] u.now }
                 else u.discardFrame ln .timeout))
              ∧ (u.now ≤ last + 200 →
                  (bytes = [] → b.toNat < 2 ∨ 250 < b.toNat →
                    exec (.byteArrival ln b after) s = .next (u.discardFrame ln .length))
                  ∧ (∀ n rest, bytes ++ [b] = n :: rest → 2 ≤ n.toNat → n.toNat ≤ 250 →
                      (rest.length < n.toNat + 1 → exec (.byteArrival ln b after) s = .next
                        (u.modLink ln fun l => { l with rx := .inFrame (bytes ++ [b]) u.now }))
                      ∧ (rest.length = n.toNat + 1 → crc8 bytes ≠ b →
                          exec (.byteArrival ln b after) s = .next (u.discardFrame ln .check))))))
  ∧ (∀ (ln : Link) (s : State), s.Ready →
      ((s.link ln).rx = .hunting → exec (.interByteTimeout ln) s = .next s)
      ∧ ∀ bytes last, (s.link ln).rx = .inFrame bytes last →
          exec (.interByteTimeout ln) s =
            .next (({ s with now := max s.now (last + 200) } : State).discardFrame ln .timeout))
  ∧ (∀ (ln : Link) (cause : FrameCause) (s : State), s.Ready →
      exec (.frameDiscard ln cause) s = .next (s.discardFrame ln cause))
  ∧ ∀ (ln : Link) (cause : FrameCause) (s : State),
      s.discardFrame ln cause = s.modLink ln fun l =>
        LinkRec.fire { l with rx := .hunting, frameErrors := min 65535 (l.frameErrors + 1) } .frameError (.cause cause)
          s.jmu.clock

/-! ### Invariants -/

/-- Every invariant below holds right after reset. -/
def Obligations.InvariantsAtReset : Prop :=
  RoomsOk State.reset ∧ QueueOk State.reset ∧ MetersOk State.reset ∧ LiftOk State.reset ∧ DepthsOk State.reset
    ∧ SettingsOk State.reset ∧ RingsOk State.reset ∧ HandlingOk State.reset ∧ RodsOk State.reset ∧ BalanceOk State.reset

/-- Every step keeps the lists of the links, the commit queue and the overflow to their room, a place of the reply list for
each outstanding request, and no idle transmitter with something to send (R142, R91, R149, R174, R175, R180). -/
def Obligations.StepKeepsRooms : Prop :=
  ∀ s t : State, RoomsOk s → step s = .next t → RoomsOk t

/-- Every step keeps the cuttings queue to 32 parcels, intervals rising, effective targets not falling (R77, R71). -/
def Obligations.StepKeepsTheCuttingsQueue : Prop :=
  ∀ s t : State, QueueOk s → step s = .next t → QueueOk t

/-- Every step keeps the sum of the seven meters of an open job at its clock (R112), the lift counter no greater than the
pumped volumes of the two pumps (R55), and while a job is OPEN or CLOSING the balance of R116: hole depth is start depth plus
pending plus the cells. -/
def Obligations.StepKeepsMetersAndLift : Prop :=
  (∀ s t : State, MetersOk s → step s = .next t → MetersOk t)
    ∧ (∀ s t : State, LiftOk s → step s = .next t → LiftOk t)
    ∧ ∀ s t : State, BalanceOk s → step s = .next t → BalanceOk t

/-- Every step keeps the bit no deeper than the hole and the hole no deeper than 1,500,000 mm (R12, R17). -/
def Obligations.StepKeepsDepths : Prop :=
  ∀ s t : State, DepthsOk s → step s = .next t → DepthsOk t

/-- Every step keeps the live settings, the stored settings images and the waiting ones in their ranges and orders, all nine
groups of R143. -/
def Obligations.StepKeepsSettings : Prop :=
  ∀ s t : State, SettingsOk s → step s = .next t → SettingsOk t

/-- Every step keeps the rings of the store in canonical form (R140), a rod in handling in exactly the connection states that
have one (R22), and the rod table, the string list and the rod in handling in agreement (R2). -/
def Obligations.StepKeepsRingsAndHandling : Prop :=
  (∀ s t : State, RingsOk s → step s = .next t → RingsOk t)
    ∧ (∀ s t : State, HandlingOk s → step s = .next t → HandlingOk t)
    ∧ ∀ s t : State, RodsOk s → step s = .next t → RodsOk t
end

