-- ==== Sys2Proof/Laws/State.lean ====
section
/-! SUPPORT. What each update of a State leaves and changes, field by field; each lemma holds by unfolding alone. -/

namespace Sys2Proof.Machine

open Sys2Proof

/-! #### modFlu -/

@[simp] theorem State.modFlu_pending (s : State) (f : FieldUnit → FieldUnit) : (s.modFlu f).pending = s.pending := rfl

@[simp] theorem State.modFlu_power (s : State) (f : FieldUnit → FieldUnit) : (s.modFlu f).power = s.power := rfl

@[simp] theorem State.modFlu_loaded (s : State) (f : FieldUnit → FieldUnit) : (s.modFlu f).loaded = s.loaded := rfl

@[simp] theorem State.modFlu_now (s : State) (f : FieldUnit → FieldUnit) : (s.modFlu f).now = s.now := rfl

@[simp] theorem State.modFlu_free (s : State) (f : FieldUnit → FieldUnit) : (s.modFlu f).free = s.free := rfl

@[simp] theorem State.modFlu_tick (s : State) (f : FieldUnit → FieldUnit) : (s.modFlu f).tick = s.tick := rfl

@[simp] theorem State.modFlu_flu (s : State) (f : FieldUnit → FieldUnit) : (s.modFlu f).flu = f s.flu := rfl

@[simp] theorem State.modFlu_str (s : State) (f : FieldUnit → FieldUnit) : (s.modFlu f).str = s.str := rfl

@[simp] theorem State.modFlu_cxu (s : State) (f : FieldUnit → FieldUnit) : (s.modFlu f).cxu = s.cxu := rfl

@[simp] theorem State.modFlu_ccu (s : State) (f : FieldUnit → FieldUnit) : (s.modFlu f).ccu = s.ccu := rfl

@[simp] theorem State.modFlu_lgu (s : State) (f : FieldUnit → FieldUnit) : (s.modFlu f).lgu = s.lgu := rfl

@[simp] theorem State.modFlu_slu (s : State) (f : FieldUnit → FieldUnit) : (s.modFlu f).slu = s.slu := rfl

@[simp] theorem State.modFlu_jmu (s : State) (f : FieldUnit → FieldUnit) : (s.modFlu f).jmu = s.jmu := rfl

@[simp] theorem State.modFlu_rst (s : State) (f : FieldUnit → FieldUnit) : (s.modFlu f).rst = s.rst := rfl

@[simp] theorem State.modFlu_liu (s : State) (f : FieldUnit → FieldUnit) : (s.modFlu f).liu = s.liu := rfl

/-! #### modStr -/

@[simp] theorem State.modStr_pending (s : State) (f : StringUnit → StringUnit) : (s.modStr f).pending = s.pending := rfl

@[simp] theorem State.modStr_power (s : State) (f : StringUnit → StringUnit) : (s.modStr f).power = s.power := rfl

@[simp] theorem State.modStr_loaded (s : State) (f : StringUnit → StringUnit) : (s.modStr f).loaded = s.loaded := rfl

@[simp] theorem State.modStr_now (s : State) (f : StringUnit → StringUnit) : (s.modStr f).now = s.now := rfl

@[simp] theorem State.modStr_free (s : State) (f : StringUnit → StringUnit) : (s.modStr f).free = s.free := rfl

@[simp] theorem State.modStr_tick (s : State) (f : StringUnit → StringUnit) : (s.modStr f).tick = s.tick := rfl

@[simp] theorem State.modStr_flu (s : State) (f : StringUnit → StringUnit) : (s.modStr f).flu = s.flu := rfl

@[simp] theorem State.modStr_str (s : State) (f : StringUnit → StringUnit) : (s.modStr f).str = f s.str := rfl

@[simp] theorem State.modStr_cxu (s : State) (f : StringUnit → StringUnit) : (s.modStr f).cxu = s.cxu := rfl

@[simp] theorem State.modStr_ccu (s : State) (f : StringUnit → StringUnit) : (s.modStr f).ccu = s.ccu := rfl

@[simp] theorem State.modStr_lgu (s : State) (f : StringUnit → StringUnit) : (s.modStr f).lgu = s.lgu := rfl

@[simp] theorem State.modStr_slu (s : State) (f : StringUnit → StringUnit) : (s.modStr f).slu = s.slu := rfl

@[simp] theorem State.modStr_jmu (s : State) (f : StringUnit → StringUnit) : (s.modStr f).jmu = s.jmu := rfl

@[simp] theorem State.modStr_rst (s : State) (f : StringUnit → StringUnit) : (s.modStr f).rst = s.rst := rfl

@[simp] theorem State.modStr_liu (s : State) (f : StringUnit → StringUnit) : (s.modStr f).liu = s.liu := rfl

/-! #### modCxu -/

@[simp] theorem State.modCxu_pending (s : State) (f : ConnUnit → ConnUnit) : (s.modCxu f).pending = s.pending := rfl

@[simp] theorem State.modCxu_power (s : State) (f : ConnUnit → ConnUnit) : (s.modCxu f).power = s.power := rfl

@[simp] theorem State.modCxu_loaded (s : State) (f : ConnUnit → ConnUnit) : (s.modCxu f).loaded = s.loaded := rfl

@[simp] theorem State.modCxu_now (s : State) (f : ConnUnit → ConnUnit) : (s.modCxu f).now = s.now := rfl

@[simp] theorem State.modCxu_free (s : State) (f : ConnUnit → ConnUnit) : (s.modCxu f).free = s.free := rfl

@[simp] theorem State.modCxu_tick (s : State) (f : ConnUnit → ConnUnit) : (s.modCxu f).tick = s.tick := rfl

@[simp] theorem State.modCxu_flu (s : State) (f : ConnUnit → ConnUnit) : (s.modCxu f).flu = s.flu := rfl

@[simp] theorem State.modCxu_str (s : State) (f : ConnUnit → ConnUnit) : (s.modCxu f).str = s.str := rfl

@[simp] theorem State.modCxu_cxu (s : State) (f : ConnUnit → ConnUnit) : (s.modCxu f).cxu = f s.cxu := rfl

@[simp] theorem State.modCxu_ccu (s : State) (f : ConnUnit → ConnUnit) : (s.modCxu f).ccu = s.ccu := rfl

@[simp] theorem State.modCxu_lgu (s : State) (f : ConnUnit → ConnUnit) : (s.modCxu f).lgu = s.lgu := rfl

@[simp] theorem State.modCxu_slu (s : State) (f : ConnUnit → ConnUnit) : (s.modCxu f).slu = s.slu := rfl

@[simp] theorem State.modCxu_jmu (s : State) (f : ConnUnit → ConnUnit) : (s.modCxu f).jmu = s.jmu := rfl

@[simp] theorem State.modCxu_rst (s : State) (f : ConnUnit → ConnUnit) : (s.modCxu f).rst = s.rst := rfl

@[simp] theorem State.modCxu_liu (s : State) (f : ConnUnit → ConnUnit) : (s.modCxu f).liu = s.liu := rfl

/-! #### modCcu -/

@[simp] theorem State.modCcu_pending (s : State) (f : CircUnit → CircUnit) : (s.modCcu f).pending = s.pending := rfl

@[simp] theorem State.modCcu_power (s : State) (f : CircUnit → CircUnit) : (s.modCcu f).power = s.power := rfl

@[simp] theorem State.modCcu_loaded (s : State) (f : CircUnit → CircUnit) : (s.modCcu f).loaded = s.loaded := rfl

@[simp] theorem State.modCcu_now (s : State) (f : CircUnit → CircUnit) : (s.modCcu f).now = s.now := rfl

@[simp] theorem State.modCcu_free (s : State) (f : CircUnit → CircUnit) : (s.modCcu f).free = s.free := rfl

@[simp] theorem State.modCcu_tick (s : State) (f : CircUnit → CircUnit) : (s.modCcu f).tick = s.tick := rfl

@[simp] theorem State.modCcu_flu (s : State) (f : CircUnit → CircUnit) : (s.modCcu f).flu = s.flu := rfl

@[simp] theorem State.modCcu_str (s : State) (f : CircUnit → CircUnit) : (s.modCcu f).str = s.str := rfl

@[simp] theorem State.modCcu_cxu (s : State) (f : CircUnit → CircUnit) : (s.modCcu f).cxu = s.cxu := rfl

@[simp] theorem State.modCcu_ccu (s : State) (f : CircUnit → CircUnit) : (s.modCcu f).ccu = f s.ccu := rfl

@[simp] theorem State.modCcu_lgu (s : State) (f : CircUnit → CircUnit) : (s.modCcu f).lgu = s.lgu := rfl

@[simp] theorem State.modCcu_slu (s : State) (f : CircUnit → CircUnit) : (s.modCcu f).slu = s.slu := rfl

@[simp] theorem State.modCcu_jmu (s : State) (f : CircUnit → CircUnit) : (s.modCcu f).jmu = s.jmu := rfl

@[simp] theorem State.modCcu_rst (s : State) (f : CircUnit → CircUnit) : (s.modCcu f).rst = s.rst := rfl

@[simp] theorem State.modCcu_liu (s : State) (f : CircUnit → CircUnit) : (s.modCcu f).liu = s.liu := rfl

/-! #### modLgu -/

@[simp] theorem State.modLgu_pending (s : State) (f : LagUnit → LagUnit) : (s.modLgu f).pending = s.pending := rfl

@[simp] theorem State.modLgu_power (s : State) (f : LagUnit → LagUnit) : (s.modLgu f).power = s.power := rfl

@[simp] theorem State.modLgu_loaded (s : State) (f : LagUnit → LagUnit) : (s.modLgu f).loaded = s.loaded := rfl

@[simp] theorem State.modLgu_now (s : State) (f : LagUnit → LagUnit) : (s.modLgu f).now = s.now := rfl

@[simp] theorem State.modLgu_free (s : State) (f : LagUnit → LagUnit) : (s.modLgu f).free = s.free := rfl

@[simp] theorem State.modLgu_tick (s : State) (f : LagUnit → LagUnit) : (s.modLgu f).tick = s.tick := rfl

@[simp] theorem State.modLgu_flu (s : State) (f : LagUnit → LagUnit) : (s.modLgu f).flu = s.flu := rfl

@[simp] theorem State.modLgu_str (s : State) (f : LagUnit → LagUnit) : (s.modLgu f).str = s.str := rfl

@[simp] theorem State.modLgu_cxu (s : State) (f : LagUnit → LagUnit) : (s.modLgu f).cxu = s.cxu := rfl

@[simp] theorem State.modLgu_ccu (s : State) (f : LagUnit → LagUnit) : (s.modLgu f).ccu = s.ccu := rfl

@[simp] theorem State.modLgu_lgu (s : State) (f : LagUnit → LagUnit) : (s.modLgu f).lgu = f s.lgu := rfl

@[simp] theorem State.modLgu_slu (s : State) (f : LagUnit → LagUnit) : (s.modLgu f).slu = s.slu := rfl

@[simp] theorem State.modLgu_jmu (s : State) (f : LagUnit → LagUnit) : (s.modLgu f).jmu = s.jmu := rfl

@[simp] theorem State.modLgu_rst (s : State) (f : LagUnit → LagUnit) : (s.modLgu f).rst = s.rst := rfl

@[simp] theorem State.modLgu_liu (s : State) (f : LagUnit → LagUnit) : (s.modLgu f).liu = s.liu := rfl

/-! #### modSlu -/

@[simp] theorem State.modSlu_pending (s : State) (f : StrataUnit → StrataUnit) : (s.modSlu f).pending = s.pending := rfl

@[simp] theorem State.modSlu_power (s : State) (f : StrataUnit → StrataUnit) : (s.modSlu f).power = s.power := rfl

@[simp] theorem State.modSlu_loaded (s : State) (f : StrataUnit → StrataUnit) : (s.modSlu f).loaded = s.loaded := rfl

@[simp] theorem State.modSlu_now (s : State) (f : StrataUnit → StrataUnit) : (s.modSlu f).now = s.now := rfl

@[simp] theorem State.modSlu_free (s : State) (f : StrataUnit → StrataUnit) : (s.modSlu f).free = s.free := rfl

@[simp] theorem State.modSlu_tick (s : State) (f : StrataUnit → StrataUnit) : (s.modSlu f).tick = s.tick := rfl

@[simp] theorem State.modSlu_flu (s : State) (f : StrataUnit → StrataUnit) : (s.modSlu f).flu = s.flu := rfl

@[simp] theorem State.modSlu_str (s : State) (f : StrataUnit → StrataUnit) : (s.modSlu f).str = s.str := rfl

@[simp] theorem State.modSlu_cxu (s : State) (f : StrataUnit → StrataUnit) : (s.modSlu f).cxu = s.cxu := rfl

@[simp] theorem State.modSlu_ccu (s : State) (f : StrataUnit → StrataUnit) : (s.modSlu f).ccu = s.ccu := rfl

@[simp] theorem State.modSlu_lgu (s : State) (f : StrataUnit → StrataUnit) : (s.modSlu f).lgu = s.lgu := rfl

@[simp] theorem State.modSlu_slu (s : State) (f : StrataUnit → StrataUnit) : (s.modSlu f).slu = f s.slu := rfl

@[simp] theorem State.modSlu_jmu (s : State) (f : StrataUnit → StrataUnit) : (s.modSlu f).jmu = s.jmu := rfl

@[simp] theorem State.modSlu_rst (s : State) (f : StrataUnit → StrataUnit) : (s.modSlu f).rst = s.rst := rfl

@[simp] theorem State.modSlu_liu (s : State) (f : StrataUnit → StrataUnit) : (s.modSlu f).liu = s.liu := rfl

/-! #### modJmu -/

@[simp] theorem State.modJmu_pending (s : State) (f : JobUnit → JobUnit) : (s.modJmu f).pending = s.pending := rfl

@[simp] theorem State.modJmu_power (s : State) (f : JobUnit → JobUnit) : (s.modJmu f).power = s.power := rfl

@[simp] theorem State.modJmu_loaded (s : State) (f : JobUnit → JobUnit) : (s.modJmu f).loaded = s.loaded := rfl

@[simp] theorem State.modJmu_now (s : State) (f : JobUnit → JobUnit) : (s.modJmu f).now = s.now := rfl

@[simp] theorem State.modJmu_free (s : State) (f : JobUnit → JobUnit) : (s.modJmu f).free = s.free := rfl

@[simp] theorem State.modJmu_tick (s : State) (f : JobUnit → JobUnit) : (s.modJmu f).tick = s.tick := rfl

@[simp] theorem State.modJmu_flu (s : State) (f : JobUnit → JobUnit) : (s.modJmu f).flu = s.flu := rfl

@[simp] theorem State.modJmu_str (s : State) (f : JobUnit → JobUnit) : (s.modJmu f).str = s.str := rfl

@[simp] theorem State.modJmu_cxu (s : State) (f : JobUnit → JobUnit) : (s.modJmu f).cxu = s.cxu := rfl

@[simp] theorem State.modJmu_ccu (s : State) (f : JobUnit → JobUnit) : (s.modJmu f).ccu = s.ccu := rfl

@[simp] theorem State.modJmu_lgu (s : State) (f : JobUnit → JobUnit) : (s.modJmu f).lgu = s.lgu := rfl

@[simp] theorem State.modJmu_slu (s : State) (f : JobUnit → JobUnit) : (s.modJmu f).slu = s.slu := rfl

@[simp] theorem State.modJmu_jmu (s : State) (f : JobUnit → JobUnit) : (s.modJmu f).jmu = f s.jmu := rfl

@[simp] theorem State.modJmu_rst (s : State) (f : JobUnit → JobUnit) : (s.modJmu f).rst = s.rst := rfl

@[simp] theorem State.modJmu_liu (s : State) (f : JobUnit → JobUnit) : (s.modJmu f).liu = s.liu := rfl

/-! #### modRst -/

@[simp] theorem State.modRst_pending (s : State) (f : Store → Store) : (s.modRst f).pending = s.pending := rfl

@[simp] theorem State.modRst_power (s : State) (f : Store → Store) : (s.modRst f).power = s.power := rfl

@[simp] theorem State.modRst_loaded (s : State) (f : Store → Store) : (s.modRst f).loaded = s.loaded := rfl

@[simp] theorem State.modRst_now (s : State) (f : Store → Store) : (s.modRst f).now = s.now := rfl

@[simp] theorem State.modRst_free (s : State) (f : Store → Store) : (s.modRst f).free = s.free := rfl

@[simp] theorem State.modRst_tick (s : State) (f : Store → Store) : (s.modRst f).tick = s.tick := rfl

@[simp] theorem State.modRst_flu (s : State) (f : Store → Store) : (s.modRst f).flu = s.flu := rfl

@[simp] theorem State.modRst_str (s : State) (f : Store → Store) : (s.modRst f).str = s.str := rfl

@[simp] theorem State.modRst_cxu (s : State) (f : Store → Store) : (s.modRst f).cxu = s.cxu := rfl

@[simp] theorem State.modRst_ccu (s : State) (f : Store → Store) : (s.modRst f).ccu = s.ccu := rfl

@[simp] theorem State.modRst_lgu (s : State) (f : Store → Store) : (s.modRst f).lgu = s.lgu := rfl

@[simp] theorem State.modRst_slu (s : State) (f : Store → Store) : (s.modRst f).slu = s.slu := rfl

@[simp] theorem State.modRst_jmu (s : State) (f : Store → Store) : (s.modRst f).jmu = s.jmu := rfl

@[simp] theorem State.modRst_rst (s : State) (f : Store → Store) : (s.modRst f).rst = f s.rst := rfl

@[simp] theorem State.modRst_liu (s : State) (f : Store → Store) : (s.modRst f).liu = s.liu := rfl

/-! #### modLink -/

@[simp] theorem State.modLink_pending (s : State) (ln : Link) (f : LinkRec → LinkRec) : (s.modLink ln f).pending = s.pending := rfl

@[simp] theorem State.modLink_power (s : State) (ln : Link) (f : LinkRec → LinkRec) : (s.modLink ln f).power = s.power := rfl

@[simp] theorem State.modLink_loaded (s : State) (ln : Link) (f : LinkRec → LinkRec) : (s.modLink ln f).loaded = s.loaded := rfl

@[simp] theorem State.modLink_now (s : State) (ln : Link) (f : LinkRec → LinkRec) : (s.modLink ln f).now = s.now := rfl

@[simp] theorem State.modLink_free (s : State) (ln : Link) (f : LinkRec → LinkRec) : (s.modLink ln f).free = s.free := rfl

@[simp] theorem State.modLink_tick (s : State) (ln : Link) (f : LinkRec → LinkRec) : (s.modLink ln f).tick = s.tick := rfl

@[simp] theorem State.modLink_flu (s : State) (ln : Link) (f : LinkRec → LinkRec) : (s.modLink ln f).flu = s.flu := rfl

@[simp] theorem State.modLink_str (s : State) (ln : Link) (f : LinkRec → LinkRec) : (s.modLink ln f).str = s.str := rfl

@[simp] theorem State.modLink_cxu (s : State) (ln : Link) (f : LinkRec → LinkRec) : (s.modLink ln f).cxu = s.cxu := rfl

@[simp] theorem State.modLink_ccu (s : State) (ln : Link) (f : LinkRec → LinkRec) : (s.modLink ln f).ccu = s.ccu := rfl

@[simp] theorem State.modLink_lgu (s : State) (ln : Link) (f : LinkRec → LinkRec) : (s.modLink ln f).lgu = s.lgu := rfl

@[simp] theorem State.modLink_slu (s : State) (ln : Link) (f : LinkRec → LinkRec) : (s.modLink ln f).slu = s.slu := rfl

@[simp] theorem State.modLink_jmu (s : State) (ln : Link) (f : LinkRec → LinkRec) : (s.modLink ln f).jmu = s.jmu := rfl

@[simp] theorem State.modLink_rst (s : State) (ln : Link) (f : LinkRec → LinkRec) : (s.modLink ln f).rst = s.rst := rfl

@[simp] theorem State.modLink_liu (s : State) (ln : Link) (f : LinkRec → LinkRec) : (s.modLink ln f).liu = s.liu.put ln (f (s.liu.get ln)) := rfl

/-! #### modLinks -/

@[simp] theorem State.modLinks_pending (s : State) (f : LinkRec → LinkRec) : (s.modLinks f).pending = s.pending := rfl

@[simp] theorem State.modLinks_power (s : State) (f : LinkRec → LinkRec) : (s.modLinks f).power = s.power := rfl

@[simp] theorem State.modLinks_loaded (s : State) (f : LinkRec → LinkRec) : (s.modLinks f).loaded = s.loaded := rfl

@[simp] theorem State.modLinks_now (s : State) (f : LinkRec → LinkRec) : (s.modLinks f).now = s.now := rfl

@[simp] theorem State.modLinks_free (s : State) (f : LinkRec → LinkRec) : (s.modLinks f).free = s.free := rfl

@[simp] theorem State.modLinks_tick (s : State) (f : LinkRec → LinkRec) : (s.modLinks f).tick = s.tick := rfl

@[simp] theorem State.modLinks_flu (s : State) (f : LinkRec → LinkRec) : (s.modLinks f).flu = s.flu := rfl

@[simp] theorem State.modLinks_str (s : State) (f : LinkRec → LinkRec) : (s.modLinks f).str = s.str := rfl

@[simp] theorem State.modLinks_cxu (s : State) (f : LinkRec → LinkRec) : (s.modLinks f).cxu = s.cxu := rfl

@[simp] theorem State.modLinks_ccu (s : State) (f : LinkRec → LinkRec) : (s.modLinks f).ccu = s.ccu := rfl

@[simp] theorem State.modLinks_lgu (s : State) (f : LinkRec → LinkRec) : (s.modLinks f).lgu = s.lgu := rfl

@[simp] theorem State.modLinks_slu (s : State) (f : LinkRec → LinkRec) : (s.modLinks f).slu = s.slu := rfl

@[simp] theorem State.modLinks_jmu (s : State) (f : LinkRec → LinkRec) : (s.modLinks f).jmu = s.jmu := rfl

@[simp] theorem State.modLinks_rst (s : State) (f : LinkRec → LinkRec) : (s.modLinks f).rst = s.rst := rfl

@[simp] theorem State.modLinks_liu (s : State) (f : LinkRec → LinkRec) : (s.modLinks f).liu = { s.liu with a := f s.liu.a, b := f s.liu.b, c := f s.liu.c, d := f s.liu.d } := rfl

/-! #### passTime -/

@[simp] theorem State.passTime_pending (s : State) (dt : Nat) : (s.passTime dt).pending = s.pending := rfl

@[simp] theorem State.passTime_power (s : State) (dt : Nat) : (s.passTime dt).power = s.power := rfl

@[simp] theorem State.passTime_loaded (s : State) (dt : Nat) : (s.passTime dt).loaded = s.loaded := rfl

@[simp] theorem State.passTime_now (s : State) (dt : Nat) : (s.passTime dt).now = s.now + dt := rfl

@[simp] theorem State.passTime_free (s : State) (dt : Nat) : (s.passTime dt).free = s.free := rfl

@[simp] theorem State.passTime_tick (s : State) (dt : Nat) : (s.passTime dt).tick = s.tick := rfl

@[simp] theorem State.passTime_flu (s : State) (dt : Nat) : (s.passTime dt).flu = s.flu := rfl

@[simp] theorem State.passTime_str (s : State) (dt : Nat) : (s.passTime dt).str = s.str := rfl

@[simp] theorem State.passTime_cxu (s : State) (dt : Nat) : (s.passTime dt).cxu = s.cxu := rfl

@[simp] theorem State.passTime_ccu (s : State) (dt : Nat) : (s.passTime dt).ccu = s.ccu := rfl

@[simp] theorem State.passTime_lgu (s : State) (dt : Nat) : (s.passTime dt).lgu = s.lgu := rfl

@[simp] theorem State.passTime_slu (s : State) (dt : Nat) : (s.passTime dt).slu = s.slu := rfl

@[simp] theorem State.passTime_jmu (s : State) (dt : Nat) : (s.passTime dt).jmu = s.jmu := rfl

@[simp] theorem State.passTime_rst (s : State) (dt : Nat) : (s.passTime dt).rst = s.rst := rfl

@[simp] theorem State.passTime_liu (s : State) (dt : Nat) : (s.passTime dt).liu = s.liu := rfl

/-! #### timeTo -/

@[simp] theorem State.timeTo_pending (s : State) (t : Nat) : (s.timeTo t).pending = s.pending := rfl

@[simp] theorem State.timeTo_power (s : State) (t : Nat) : (s.timeTo t).power = s.power := rfl

@[simp] theorem State.timeTo_loaded (s : State) (t : Nat) : (s.timeTo t).loaded = s.loaded := rfl

@[simp] theorem State.timeTo_now (s : State) (t : Nat) : (s.timeTo t).now = max s.now t := rfl

@[simp] theorem State.timeTo_free (s : State) (t : Nat) : (s.timeTo t).free = s.free := rfl

@[simp] theorem State.timeTo_tick (s : State) (t : Nat) : (s.timeTo t).tick = s.tick := rfl

@[simp] theorem State.timeTo_flu (s : State) (t : Nat) : (s.timeTo t).flu = s.flu := rfl

@[simp] theorem State.timeTo_str (s : State) (t : Nat) : (s.timeTo t).str = s.str := rfl

@[simp] theorem State.timeTo_cxu (s : State) (t : Nat) : (s.timeTo t).cxu = s.cxu := rfl

@[simp] theorem State.timeTo_ccu (s : State) (t : Nat) : (s.timeTo t).ccu = s.ccu := rfl

@[simp] theorem State.timeTo_lgu (s : State) (t : Nat) : (s.timeTo t).lgu = s.lgu := rfl

@[simp] theorem State.timeTo_slu (s : State) (t : Nat) : (s.timeTo t).slu = s.slu := rfl

@[simp] theorem State.timeTo_jmu (s : State) (t : Nat) : (s.timeTo t).jmu = s.jmu := rfl

@[simp] theorem State.timeTo_rst (s : State) (t : Nat) : (s.timeTo t).rst = s.rst := rfl

@[simp] theorem State.timeTo_liu (s : State) (t : Nat) : (s.timeTo t).liu = s.liu := rfl

/-! #### raiseOffset -/

@[simp] theorem State.raiseOffset_pending (s : State) (x : Int) : (s.raiseOffset x).pending = s.pending := rfl

@[simp] theorem State.raiseOffset_power (s : State) (x : Int) : (s.raiseOffset x).power = s.power := rfl

@[simp] theorem State.raiseOffset_loaded (s : State) (x : Int) : (s.raiseOffset x).loaded = s.loaded := rfl

@[simp] theorem State.raiseOffset_now (s : State) (x : Int) : (s.raiseOffset x).now = s.now := rfl

@[simp] theorem State.raiseOffset_free (s : State) (x : Int) : (s.raiseOffset x).free = s.free := rfl

@[simp] theorem State.raiseOffset_tick (s : State) (x : Int) : (s.raiseOffset x).tick = s.tick := rfl

@[simp] theorem State.raiseOffset_flu (s : State) (x : Int) : (s.raiseOffset x).flu = s.flu := rfl

@[simp] theorem State.raiseOffset_str (s : State) (x : Int) : (s.raiseOffset x).str = { s.str with offset := s.str.offset + x } := rfl

@[simp] theorem State.raiseOffset_cxu (s : State) (x : Int) : (s.raiseOffset x).cxu = s.cxu := rfl

@[simp] theorem State.raiseOffset_ccu (s : State) (x : Int) : (s.raiseOffset x).ccu = s.ccu := rfl

@[simp] theorem State.raiseOffset_lgu (s : State) (x : Int) : (s.raiseOffset x).lgu = s.lgu := rfl

@[simp] theorem State.raiseOffset_slu (s : State) (x : Int) : (s.raiseOffset x).slu = s.slu := rfl

@[simp] theorem State.raiseOffset_jmu (s : State) (x : Int) : (s.raiseOffset x).jmu = s.jmu := rfl

@[simp] theorem State.raiseOffset_rst (s : State) (x : Int) : (s.raiseOffset x).rst = s.rst := rfl

@[simp] theorem State.raiseOffset_liu (s : State) (x : Int) : (s.raiseOffset x).liu = s.liu := rfl

/-! #### setHandling -/

@[simp] theorem State.setHandling_pending (s : State) (r : Option Nat) : (s.setHandling r).pending = s.pending := rfl

@[simp] theorem State.setHandling_power (s : State) (r : Option Nat) : (s.setHandling r).power = s.power := rfl

@[simp] theorem State.setHandling_loaded (s : State) (r : Option Nat) : (s.setHandling r).loaded = s.loaded := rfl

@[simp] theorem State.setHandling_now (s : State) (r : Option Nat) : (s.setHandling r).now = s.now := rfl

@[simp] theorem State.setHandling_free (s : State) (r : Option Nat) : (s.setHandling r).free = s.free := rfl

@[simp] theorem State.setHandling_tick (s : State) (r : Option Nat) : (s.setHandling r).tick = s.tick := rfl

@[simp] theorem State.setHandling_flu (s : State) (r : Option Nat) : (s.setHandling r).flu = s.flu := rfl

@[simp] theorem State.setHandling_str (s : State) (r : Option Nat) : (s.setHandling r).str = s.str := rfl

@[simp] theorem State.setHandling_cxu (s : State) (r : Option Nat) : (s.setHandling r).cxu = { s.cxu with handling := r } := rfl

@[simp] theorem State.setHandling_ccu (s : State) (r : Option Nat) : (s.setHandling r).ccu = s.ccu := rfl

@[simp] theorem State.setHandling_lgu (s : State) (r : Option Nat) : (s.setHandling r).lgu = s.lgu := rfl

@[simp] theorem State.setHandling_slu (s : State) (r : Option Nat) : (s.setHandling r).slu = s.slu := rfl

@[simp] theorem State.setHandling_jmu (s : State) (r : Option Nat) : (s.setHandling r).jmu = s.jmu := rfl

@[simp] theorem State.setHandling_rst (s : State) (r : Option Nat) : (s.setHandling r).rst = s.rst := rfl

@[simp] theorem State.setHandling_liu (s : State) (r : Option Nat) : (s.setHandling r).liu = s.liu := rfl

/-! #### reply -/

@[simp] theorem State.reply_pending (s : State) (ln : Link) (r : Reply) : (s.reply ln r).pending = s.pending := rfl

@[simp] theorem State.reply_power (s : State) (ln : Link) (r : Reply) : (s.reply ln r).power = s.power := rfl

@[simp] theorem State.reply_loaded (s : State) (ln : Link) (r : Reply) : (s.reply ln r).loaded = s.loaded := rfl

@[simp] theorem State.reply_now (s : State) (ln : Link) (r : Reply) : (s.reply ln r).now = s.now := rfl

@[simp] theorem State.reply_free (s : State) (ln : Link) (r : Reply) : (s.reply ln r).free = s.free := rfl

@[simp] theorem State.reply_tick (s : State) (ln : Link) (r : Reply) : (s.reply ln r).tick = s.tick := rfl

@[simp] theorem State.reply_flu (s : State) (ln : Link) (r : Reply) : (s.reply ln r).flu = s.flu := rfl

@[simp] theorem State.reply_str (s : State) (ln : Link) (r : Reply) : (s.reply ln r).str = s.str := rfl

@[simp] theorem State.reply_cxu (s : State) (ln : Link) (r : Reply) : (s.reply ln r).cxu = s.cxu := rfl

@[simp] theorem State.reply_ccu (s : State) (ln : Link) (r : Reply) : (s.reply ln r).ccu = s.ccu := rfl

@[simp] theorem State.reply_lgu (s : State) (ln : Link) (r : Reply) : (s.reply ln r).lgu = s.lgu := rfl

@[simp] theorem State.reply_slu (s : State) (ln : Link) (r : Reply) : (s.reply ln r).slu = s.slu := rfl

@[simp] theorem State.reply_jmu (s : State) (ln : Link) (r : Reply) : (s.reply ln r).jmu = s.jmu := rfl

@[simp] theorem State.reply_rst (s : State) (ln : Link) (r : Reply) : (s.reply ln r).rst = s.rst := rfl

@[simp] theorem State.reply_liu (s : State) (ln : Link) (r : Reply) : (s.reply ln r).liu = s.liu.put ln ((s.liu.get ln).addReply r) := rfl

/-! #### sayOn -/

@[simp] theorem State.sayOn_pending (s : State) (ln : Link) (k tag : Nat) (st : Status) : (s.sayOn ln k tag st).pending = s.pending := rfl

@[simp] theorem State.sayOn_power (s : State) (ln : Link) (k tag : Nat) (st : Status) : (s.sayOn ln k tag st).power = s.power := rfl

@[simp] theorem State.sayOn_loaded (s : State) (ln : Link) (k tag : Nat) (st : Status) : (s.sayOn ln k tag st).loaded = s.loaded := rfl

@[simp] theorem State.sayOn_now (s : State) (ln : Link) (k tag : Nat) (st : Status) : (s.sayOn ln k tag st).now = s.now := rfl

@[simp] theorem State.sayOn_free (s : State) (ln : Link) (k tag : Nat) (st : Status) : (s.sayOn ln k tag st).free = s.free := rfl

@[simp] theorem State.sayOn_tick (s : State) (ln : Link) (k tag : Nat) (st : Status) : (s.sayOn ln k tag st).tick = s.tick := rfl

@[simp] theorem State.sayOn_flu (s : State) (ln : Link) (k tag : Nat) (st : Status) : (s.sayOn ln k tag st).flu = s.flu := rfl

@[simp] theorem State.sayOn_str (s : State) (ln : Link) (k tag : Nat) (st : Status) : (s.sayOn ln k tag st).str = s.str := rfl

@[simp] theorem State.sayOn_cxu (s : State) (ln : Link) (k tag : Nat) (st : Status) : (s.sayOn ln k tag st).cxu = s.cxu := rfl

@[simp] theorem State.sayOn_ccu (s : State) (ln : Link) (k tag : Nat) (st : Status) : (s.sayOn ln k tag st).ccu = s.ccu := rfl

@[simp] theorem State.sayOn_lgu (s : State) (ln : Link) (k tag : Nat) (st : Status) : (s.sayOn ln k tag st).lgu = s.lgu := rfl

@[simp] theorem State.sayOn_slu (s : State) (ln : Link) (k tag : Nat) (st : Status) : (s.sayOn ln k tag st).slu = s.slu := rfl

@[simp] theorem State.sayOn_jmu (s : State) (ln : Link) (k tag : Nat) (st : Status) : (s.sayOn ln k tag st).jmu = s.jmu := rfl

@[simp] theorem State.sayOn_rst (s : State) (ln : Link) (k tag : Nat) (st : Status) : (s.sayOn ln k tag st).rst = s.rst := rfl

@[simp] theorem State.sayOn_liu (s : State) (ln : Link) (k tag : Nat) (st : Status) : (s.sayOn ln k tag st).liu = s.liu.put ln ((s.liu.get ln).addReply ⟨k, tag, st, [[]]⟩) := rfl

/-! #### fire -/

@[simp] theorem State.fire_pending (s : State) (c : Cond) (x : Content) : (s.fire c x).pending = s.pending := rfl

@[simp] theorem State.fire_power (s : State) (c : Cond) (x : Content) : (s.fire c x).power = s.power := rfl

@[simp] theorem State.fire_loaded (s : State) (c : Cond) (x : Content) : (s.fire c x).loaded = s.loaded := rfl

@[simp] theorem State.fire_now (s : State) (c : Cond) (x : Content) : (s.fire c x).now = s.now := rfl

@[simp] theorem State.fire_free (s : State) (c : Cond) (x : Content) : (s.fire c x).free = s.free := rfl

@[simp] theorem State.fire_tick (s : State) (c : Cond) (x : Content) : (s.fire c x).tick = s.tick := rfl

@[simp] theorem State.fire_flu (s : State) (c : Cond) (x : Content) : (s.fire c x).flu = s.flu := rfl

@[simp] theorem State.fire_str (s : State) (c : Cond) (x : Content) : (s.fire c x).str = s.str := rfl

@[simp] theorem State.fire_cxu (s : State) (c : Cond) (x : Content) : (s.fire c x).cxu = s.cxu := rfl

@[simp] theorem State.fire_ccu (s : State) (c : Cond) (x : Content) : (s.fire c x).ccu = s.ccu := rfl

@[simp] theorem State.fire_lgu (s : State) (c : Cond) (x : Content) : (s.fire c x).lgu = s.lgu := rfl

@[simp] theorem State.fire_slu (s : State) (c : Cond) (x : Content) : (s.fire c x).slu = s.slu := rfl

@[simp] theorem State.fire_jmu (s : State) (c : Cond) (x : Content) : (s.fire c x).jmu = s.jmu := rfl

@[simp] theorem State.fire_rst (s : State) (c : Cond) (x : Content) : (s.fire c x).rst = s.rst := rfl

/-! #### fireOn -/

@[simp] theorem State.fireOn_pending (s : State) (ln : Link) (c : Cond) (x : Content) : (s.fireOn ln c x).pending = s.pending := rfl

@[simp] theorem State.fireOn_power (s : State) (ln : Link) (c : Cond) (x : Content) : (s.fireOn ln c x).power = s.power := rfl

@[simp] theorem State.fireOn_loaded (s : State) (ln : Link) (c : Cond) (x : Content) : (s.fireOn ln c x).loaded = s.loaded := rfl

@[simp] theorem State.fireOn_now (s : State) (ln : Link) (c : Cond) (x : Content) : (s.fireOn ln c x).now = s.now := rfl

@[simp] theorem State.fireOn_free (s : State) (ln : Link) (c : Cond) (x : Content) : (s.fireOn ln c x).free = s.free := rfl

@[simp] theorem State.fireOn_tick (s : State) (ln : Link) (c : Cond) (x : Content) : (s.fireOn ln c x).tick = s.tick := rfl

@[simp] theorem State.fireOn_flu (s : State) (ln : Link) (c : Cond) (x : Content) : (s.fireOn ln c x).flu = s.flu := rfl

@[simp] theorem State.fireOn_str (s : State) (ln : Link) (c : Cond) (x : Content) : (s.fireOn ln c x).str = s.str := rfl

@[simp] theorem State.fireOn_cxu (s : State) (ln : Link) (c : Cond) (x : Content) : (s.fireOn ln c x).cxu = s.cxu := rfl

@[simp] theorem State.fireOn_ccu (s : State) (ln : Link) (c : Cond) (x : Content) : (s.fireOn ln c x).ccu = s.ccu := rfl

@[simp] theorem State.fireOn_lgu (s : State) (ln : Link) (c : Cond) (x : Content) : (s.fireOn ln c x).lgu = s.lgu := rfl

@[simp] theorem State.fireOn_slu (s : State) (ln : Link) (c : Cond) (x : Content) : (s.fireOn ln c x).slu = s.slu := rfl

@[simp] theorem State.fireOn_jmu (s : State) (ln : Link) (c : Cond) (x : Content) : (s.fireOn ln c x).jmu = s.jmu := rfl

@[simp] theorem State.fireOn_rst (s : State) (ln : Link) (c : Cond) (x : Content) : (s.fireOn ln c x).rst = s.rst := rfl

@[simp] theorem State.fireOn_liu (s : State) (ln : Link) (c : Cond) (x : Content) : (s.fireOn ln c x).liu = s.liu.put ln ((s.liu.get ln).fire c x s.jmu.clock) := rfl

/-! #### discardFrame -/

@[simp] theorem State.discardFrame_pending (s : State) (ln : Link) (c : FrameCause) : (s.discardFrame ln c).pending = s.pending := rfl

@[simp] theorem State.discardFrame_power (s : State) (ln : Link) (c : FrameCause) : (s.discardFrame ln c).power = s.power := rfl

@[simp] theorem State.discardFrame_loaded (s : State) (ln : Link) (c : FrameCause) : (s.discardFrame ln c).loaded = s.loaded := rfl

@[simp] theorem State.discardFrame_now (s : State) (ln : Link) (c : FrameCause) : (s.discardFrame ln c).now = s.now := rfl

@[simp] theorem State.discardFrame_free (s : State) (ln : Link) (c : FrameCause) : (s.discardFrame ln c).free = s.free := rfl

@[simp] theorem State.discardFrame_tick (s : State) (ln : Link) (c : FrameCause) : (s.discardFrame ln c).tick = s.tick := rfl

@[simp] theorem State.discardFrame_flu (s : State) (ln : Link) (c : FrameCause) : (s.discardFrame ln c).flu = s.flu := rfl

@[simp] theorem State.discardFrame_str (s : State) (ln : Link) (c : FrameCause) : (s.discardFrame ln c).str = s.str := rfl

@[simp] theorem State.discardFrame_cxu (s : State) (ln : Link) (c : FrameCause) : (s.discardFrame ln c).cxu = s.cxu := rfl

@[simp] theorem State.discardFrame_ccu (s : State) (ln : Link) (c : FrameCause) : (s.discardFrame ln c).ccu = s.ccu := rfl

@[simp] theorem State.discardFrame_lgu (s : State) (ln : Link) (c : FrameCause) : (s.discardFrame ln c).lgu = s.lgu := rfl

@[simp] theorem State.discardFrame_slu (s : State) (ln : Link) (c : FrameCause) : (s.discardFrame ln c).slu = s.slu := rfl

@[simp] theorem State.discardFrame_jmu (s : State) (ln : Link) (c : FrameCause) : (s.discardFrame ln c).jmu = s.jmu := rfl

@[simp] theorem State.discardFrame_rst (s : State) (ln : Link) (c : FrameCause) : (s.discardFrame ln c).rst = s.rst := rfl

/-! #### fireLevel -/

@[simp] theorem State.fireLevel_pending (s : State) (c : Cond) (a b : Bool) : (s.fireLevel c a b).pending = s.pending := by
  unfold State.fireLevel; split <;> rfl

@[simp] theorem State.fireLevel_power (s : State) (c : Cond) (a b : Bool) : (s.fireLevel c a b).power = s.power := by
  unfold State.fireLevel; split <;> rfl

@[simp] theorem State.fireLevel_loaded (s : State) (c : Cond) (a b : Bool) : (s.fireLevel c a b).loaded = s.loaded := by
  unfold State.fireLevel; split <;> rfl

@[simp] theorem State.fireLevel_now (s : State) (c : Cond) (a b : Bool) : (s.fireLevel c a b).now = s.now := by
  unfold State.fireLevel; split <;> rfl

@[simp] theorem State.fireLevel_free (s : State) (c : Cond) (a b : Bool) : (s.fireLevel c a b).free = s.free := by
  unfold State.fireLevel; split <;> rfl

@[simp] theorem State.fireLevel_tick (s : State) (c : Cond) (a b : Bool) : (s.fireLevel c a b).tick = s.tick := by
  unfold State.fireLevel; split <;> rfl

@[simp] theorem State.fireLevel_flu (s : State) (c : Cond) (a b : Bool) : (s.fireLevel c a b).flu = s.flu := by
  unfold State.fireLevel; split <;> rfl

@[simp] theorem State.fireLevel_str (s : State) (c : Cond) (a b : Bool) : (s.fireLevel c a b).str = s.str := by
  unfold State.fireLevel; split <;> rfl

@[simp] theorem State.fireLevel_cxu (s : State) (c : Cond) (a b : Bool) : (s.fireLevel c a b).cxu = s.cxu := by
  unfold State.fireLevel; split <;> rfl

@[simp] theorem State.fireLevel_ccu (s : State) (c : Cond) (a b : Bool) : (s.fireLevel c a b).ccu = s.ccu := by
  unfold State.fireLevel; split <;> rfl

@[simp] theorem State.fireLevel_lgu (s : State) (c : Cond) (a b : Bool) : (s.fireLevel c a b).lgu = s.lgu := by
  unfold State.fireLevel; split <;> rfl

@[simp] theorem State.fireLevel_slu (s : State) (c : Cond) (a b : Bool) : (s.fireLevel c a b).slu = s.slu := by
  unfold State.fireLevel; split <;> rfl

@[simp] theorem State.fireLevel_jmu (s : State) (c : Cond) (a b : Bool) : (s.fireLevel c a b).jmu = s.jmu := by
  unfold State.fireLevel; split <;> rfl

@[simp] theorem State.fireLevel_rst (s : State) (c : Cond) (a b : Bool) : (s.fireLevel c a b).rst = s.rst := by
  unfold State.fireLevel; split <;> rfl

end Sys2Proof.Machine
end

