-- ==== Sys2Proof/Laws/Ops.lean ====
section
/-! SUPPORT. What the shared operations over numbers, sorted lists, links and pumps can do, each said once. -/

namespace Sys2Proof.Machine

open Sys2Proof

/-! ### Ranges and held counters -/

theorem inRange_iff {lo hi v : Nat} : inRange lo hi v = true ↔ lo ≤ v ∧ v ≤ hi := by simp [inRange]

/-- A value brought in lies in its range. -/
theorem bringIn_mem {lo hi : Nat} (h : lo ≤ hi) (v : Nat) : lo ≤ bringIn lo hi v ∧ bringIn lo hi v ≤ hi := by
  unfold bringIn; omega

/-- A value in its range is taken as given. -/
theorem bringIn_eq {lo hi v : Nat} (h1 : lo ≤ v) (h2 : v ≤ hi) : bringIn lo hi v = v := by unfold bringIn; omega

/-- A held sum never passes its maximum. -/
theorem heldSum_le (top v inc : Nat) : heldSum top v inc ≤ top := by unfold heldSum; omega

/-- A held sum that stays below its maximum is the sum. -/
theorem heldSum_eq {top v inc : Nat} (h : v + inc ≤ top) : heldSum top v inc = v + inc := by unfold heldSum; omega

/-! ### Sorted lists -/

theorem strictlyRising_cons {x : Nat} {l : List Nat} :
    strictlyRising (x :: l) = true ↔ (∀ y ∈ l.head?, x < y) ∧ strictlyRising l = true := by
  cases l with
  | nil => simp [strictlyRising]
  | cons y r => simp [strictlyRising]

/-- `strictlyRising` is Mathlib's sortedness of a list under `<`. -/
theorem strictlyRising_iff (l : List Nat) : strictlyRising l = true ↔ l.Pairwise (· < ·) := by
  induction l with
  | nil => simp [strictlyRising]
  | cons x l ih =>
    rw [strictlyRising_cons, ih, List.pairwise_cons]
    constructor
    · rintro ⟨h1, h2⟩
      refine ⟨fun y hy => ?_, h2⟩
      cases l with
      | nil => simp at hy
      | cons z r =>
        have hz : x < z := h1 z (by simp)
        rcases List.mem_cons.mp hy with rfl | hr
        · exact hz
        · exact lt_trans hz ((List.pairwise_cons.mp h2).1 y hr)
    · rintro ⟨h1, h2⟩
      refine ⟨fun y hy => h1 y ?_, h2⟩
      cases l with
      | nil => simp at hy
      | cons z r => simp at hy; simp [hy]

/-- The items after `insertRising`: the new one, and the old ones with another key. -/
theorem mem_insertRising {α : Type} (key : α → Nat) (x y : α) (l : List α) (h : y ∈ insertRising key x l) :
    y = x ∨ y ∈ l := by
  induction l with
  | nil => simpa [insertRising] using h
  | cons z l ih =>
    unfold insertRising at h
    split at h
    · simpa using h
    · split at h
      · rcases List.mem_cons.mp h with h | h
        · exact .inl h
        · exact .inr (List.mem_cons_of_mem _ h)
      · rcases List.mem_cons.mp h with h | h
        · exact .inr (by simp [h])
        · exact (ih h).imp id (List.mem_cons_of_mem _)

/-- `insertRising` keeps a list rising by its key. -/
theorem insertRising_rising {α : Type} (key : α → Nat) (x : α) (l : List α) (h : (l.map key).Pairwise (· < ·)) :
    ((insertRising key x l).map key).Pairwise (· < ·) := by
  induction l with
  | nil => simp [insertRising]
  | cons y l ih =>
    simp only [List.map_cons, List.pairwise_cons, List.mem_map, forall_exists_index, and_imp,
      forall_apply_eq_imp_iff₂] at h
    unfold insertRising
    split
    next hlt =>
      simp only [List.map_cons, List.pairwise_cons, List.mem_cons, List.mem_map]
      refine ⟨?_, ⟨by simpa using h.1, h.2⟩⟩
      rintro a (rfl | ⟨z, hz, rfl⟩)
      · exact hlt
      · exact lt_trans hlt (h.1 z hz)
    next hlt =>
      split
      next heq =>
        simp only [List.map_cons, List.pairwise_cons, List.mem_map, forall_exists_index, and_imp,
          forall_apply_eq_imp_iff₂]
        exact ⟨fun z hz => heq ▸ h.1 z hz, h.2⟩
      next hne =>
        simp only [List.map_cons, List.pairwise_cons, List.mem_map, forall_exists_index, and_imp,
          forall_apply_eq_imp_iff₂]
        refine ⟨fun z hz => ?_, ih h.2⟩
        rcases mem_insertRising key x z l hz with rfl | hz
        · omega
        · exact h.1 z hz

/-! ### Links and pumps -/

@[simp] theorem LinkUnit.get_put_same (u : LinkUnit) (ln : Link) (l : LinkRec) : (u.put ln l).get ln = l := by
  cases ln <;> rfl

theorem LinkUnit.get_put_ne (u : LinkUnit) {ln ln' : Link} (l : LinkRec) (h : ln' ≠ ln) :
    (u.put ln l).get ln' = u.get ln' := by
  cases ln <;> cases ln' <;> first | rfl | exact absurd rfl h

@[simp] theorem LinkUnit.put_get (u : LinkUnit) (ln : Link) : u.put ln (u.get ln) = u := by cases ln <;> rfl

@[simp] theorem LinkUnit.put_put (u : LinkUnit) (ln : Link) (x y : LinkRec) : (u.put ln x).put ln y = u.put ln y := by
  cases ln <;> rfl

@[simp] theorem LinkUnit.put_speed (u : LinkUnit) (ln : Link) (l : LinkRec) : (u.put ln l).speed = u.speed := by
  cases ln <;> rfl

@[simp] theorem CircUnit.pump_putPump_same (u : CircUnit) (p : PumpId) (x : Pump) : (u.putPump p x).pump p = x := by
  cases p <;> rfl

theorem CircUnit.pump_putPump_ne (u : CircUnit) {p q : PumpId} (x : Pump) (h : q ≠ p) :
    (u.putPump p x).pump q = u.pump q := by
  cases p <;> cases q <;> first | rfl | exact absurd rfl h

@[simp] theorem FieldUnit.line_putLine_same (u : FieldUnit) (i : Fin 12) (r : LineRec) : (u.putLine i r).line i = r := by
  simp [FieldUnit.line, FieldUnit.putLine]

theorem FieldUnit.line_putLine_ne (u : FieldUnit) {i j : Fin 12} (r : LineRec) (h : j ≠ i) :
    (u.putLine i r).line j = u.line j := by
  have h' : (i : Nat) ≠ (j : Nat) := fun e => h (Fin.ext e.symm)
  simp [FieldUnit.line, FieldUnit.putLine, Vector.getElem_set_ne _ _ h']

end Sys2Proof.Machine
end

