-- ==== Sys2Proof/Laws/Links.lean ====
section
/-! SUPPORT. What the taking of a request, a firing, a notice frame and the transmitter can do (R173 to R180). -/

namespace Sys2Proof.Machine

open Sys2Proof

/-- The record of a link after an adjustment of it. -/
@[simp] theorem State.link_modLink_same (s : State) (ln : Link) (f : LinkRec → LinkRec) :
    (s.modLink ln f).link ln = f (s.link ln) := by simp [State.link]

/-- An adjustment of one link leaves the others. -/
theorem State.link_modLink_ne (s : State) {ln ln' : Link} (f : LinkRec → LinkRec) (h : ln' ≠ ln) :
    (s.modLink ln f).link ln' = s.link ln' := by
  simpa [State.link] using LinkUnit.get_put_ne s.liu _ h

/-- A request that its link can take is answered by its owner. -/
theorem request_of_canTake {s : State} {ln : Link} {k : Kind} (h : CanTake s ln k) (tag : Nat)
    (own : State → State × Answer) :
    request ln tag k own s = .next ((own s).1.answer ln k.number tag (own s).2) := by
  obtain ⟨⟨hp, hl⟩, hf, ho, hs, hr⟩ := h
  have hlock : ¬ ((s.link ln).state = .locked ∧ k.passesLock = false) := by
    rintro ⟨h1, h2⟩
    rcases hs with h | h
    · rw [h] at h1; cases h1
    · rw [h] at h2; cases h2
  unfold request whenReady State.takeRequest
  simp [hp, hl, hf, ho, hr, hlock]

/-- A link command without power or before the receivers are enabled changes nothing (R170). -/
theorem whenReady_of_not {s : State} (h : ¬ s.Ready) (f : State → State) : whenReady s f = .next s := by
  unfold whenReady State.Ready at *
  simp [h]

/-- A firing with its latch set has no effect (R179). -/
theorem LinkRec.fire_of_set {l : LinkRec} {c : Cond} {x : Latch} (h : l.latch c = some x) (y : Content) (n : Nat) :
    l.fire c y n = l := by
  simp [LinkRec.fire, h]

/-- The record of a queued or lost notice frame differs from what it was only in what is sent, what waits, and the overflow
figures (R180). -/
theorem LinkRec.sendNext_kept (l : LinkRec) :
    l.sendNext.latches = l.latches ∧ l.sendNext.masks = l.masks ∧ l.sendNext.rx = l.rx ∧ l.sendNext.state = l.state
      ∧ l.sendNext.effective = l.effective ∧ l.sendNext.strapped = l.strapped ∧ l.sendNext.lost = l.lost
      ∧ l.sendNext.frameErrors = l.frameErrors ∧ l.sendNext.violation = l.violation
      ∧ l.sendNext.latchWhileMasked = l.latchWhileMasked := by
  unfold LinkRec.sendNext
  split
  · simp
  · split
    · simp
    · split
      · unfold LinkRec.afterDeparture
        split
        · split
          · split <;> simp
          · simp
        · simp
      · simp

/-- An idle transmitter is left idle only with nothing to send (R175). -/
theorem LinkRec.sendNext_idle {l : LinkRec} (h : l.sendNext.sending = none) :
    l.sendNext.replies = [] ∧ l.sendNext.notices = [] := by
  unfold LinkRec.sendNext at h ⊢
  split at h
  next hx => simp [hx] at h
  next hx =>
    split at h
    next hr => simp at h
    next hr =>
      split at h
      next hn =>
        unfold LinkRec.afterDeparture at h
        split at h
        · split at h
          · split at h <;> simp at h
          · simp at h
        · simp at h
      next hn => simp [hr, hn]

end Sys2Proof.Machine
end

