-- ==== Sys2Proof/Laws/Frames.lean ====
section
/-! SUPPORT. What the operations shared by many commands leave alone: a firing, a reply and the serving of a read touch the
links, a suspension's end the controller and the read list, a completion check the circulation figures (R149, R150, R178). -/

namespace Sys2Proof.Machine

open Sys2Proof

/-! ### Firings and replies touch the links alone -/

theorem State.fire_eq (s : State) (c : Cond) (x : Content) : s.fire c x = { s with liu := (s.fire c x).liu } := rfl

theorem State.reply_eq (s : State) (ln : Link) (r : Reply) : s.reply ln r = { s with liu := (s.reply ln r).liu } := rfl

theorem State.fireLevel_eq (s : State) (c : Cond) (was now : Bool) :
    s.fireLevel c was now = { s with liu := (s.fireLevel c was now).liu } := by
  unfold State.fireLevel; split <;> rfl

theorem State.fireEach_eq (c : Cond) (xs : List Content) :
    ∀ s : State, s.fireEach c xs = { s with liu := (s.fireEach c xs).liu } := by
  induction xs with
  | nil => exact fun _ => rfl
  | cons x xs ih => exact fun s => (ih (s.fire c x)).trans rfl

theorem State.fireCorrected_eq (s : State) (o : Bool) (a : AreaId) (n : Nat) :
    s.fireCorrected o a n = { s with liu := (s.fireCorrected o a n).liu } := by
  unfold State.fireCorrected; split <;> rfl

/-! ### The reads of the store -/

theorem searchLatest_eq (job : Nat) (l : List (Nat × Slot StrataRec)) :
    ∀ s : State, (searchLatest job l s).1 = { s with liu := (searchLatest job l s).1.liu } := by
  induction l with
  | nil => exact fun _ => rfl
  | cons p l ih =>
    intro s
    unfold searchLatest
    split
    next r corrected _ =>
      have h := s.fireCorrected_eq corrected .strata p.1
      dsimp only
      split
      · exact h
      · rw [ih, h]
    next => exact ih s

/-- A served read fires and changes nothing else (R151). -/
theorem serve_eq (req : ReadReq) (s : State) : (serve req s).1 = { s with liu := (serve req s).1.liu } := by
  cases req with
  | strata i => exact s.fireCorrected_eq _ _ _
  | job i part => exact s.fireCorrected_eq _ _ _
  | settings part => exact s.fireCorrected_eq _ _ _
  | rods start => exact s.fireCorrected_eq _ _ _
  | latest job =>
    have h := searchLatest_eq job (s.rst.areas.strata.backward s.rst.strataPos) s
    simp only [serve]
    generalize searchLatest job (s.rst.areas.strata.backward s.rst.strataPos) s = x at h ⊢
    obtain ⟨t, _ | ⟨i, corrected, r⟩⟩ := x <;> exact h

/-- The service of one read touches the links alone (R149). -/
theorem State.serveOne_eq (s : State) (p : PendingRead) : s.serveOne p = { s with liu := (s.serveOne p).liu } := by
  have h := serve_eq p.req s
  unfold State.serveOne
  generalize serve p.req s = x at h ⊢
  obtain ⟨t, st, bytes⟩ := x
  have ht : t = { s with liu := t.liu } := h
  rw [ht]
  rfl

/-- When the waiting reads have been served the list is empty and nothing else but the links has changed (R149). -/
theorem serveList_eq (l : List PendingRead) :
    ∀ s : State, s.rst.readList = l →
      serveList l s = { s with liu := (serveList l s).liu, rst := { s.rst with readList := [] } } := by
  induction l with
  | nil => intro s h; unfold serveList; rw [← h]
  | cons p ps ih =>
    intro s _
    unfold serveList
    have h1 := (s.modRst fun u => { u with readList := ps }).serveOne_eq p
    rw [ih _ (by rw [h1]; rfl)]
    rw [h1]
    rfl

theorem State.serveReads_eq (s : State) :
    s.serveReads = { s with liu := s.serveReads.liu, rst := { s.rst with readList := [] } } := serveList_eq _ s rfl

/-! ### Suspensions -/

/-- A suspended erase with no read left resumes from the present moment (R150). -/
theorem State.resumeErase_of_nil {s : State} {e : Erase} (h : s.rst.ctl = .suspended e) (hr : s.rst.readList = []) :
    s.resumeErase = { s with rst := { s.rst with ctl := .erasing { e with since := s.now } } } := by
  unfold State.resumeErase; rw [h, hr]; rfl

/-- With a read waiting the erase stays suspended (R150). -/
theorem State.resumeErase_of_cons {s : State} {p : PendingRead} {ps : List PendingRead} (h : s.rst.readList = p :: ps) :
    s.resumeErase = s := by
  unfold State.resumeErase; rw [h]; split <;> simp_all

/-- Outside a suspension there is nothing to resume. -/
theorem State.resumeErase_of_ne {s : State} (h : ∀ e, s.rst.ctl ≠ .suspended e) : s.resumeErase = s := by
  unfold State.resumeErase; split
  next he _ => exact absurd he (h _)
  next => rfl

/-- Outside a suspension no read is in service. -/
theorem State.serveSuspended_of_ne {s : State} (h : ∀ e, s.rst.ctl ≠ .suspended e) : s.serveSuspended = s := by
  unfold State.serveSuspended; split
  next he _ => exact absurd he (h _)
  next he _ => exact absurd he (h _)
  next => rfl

/-- The end of a suspension serves every read and leaves the erase under way (R150). -/
theorem State.endSuspension_of {s : State} {e : Erase} (h : s.rst.ctl = .suspended e) :
    s.endSuspension =
      { s with
        liu := s.serveReads.liu, rst := { s.rst with readList := [], ctl := .erasing { e with since := s.now } } } := by
  unfold State.endSuspension
  have hr := s.serveReads_eq
  simp only [h]
  rw [State.resumeErase_of_nil (e := e) (by rw [hr]; exact h) (by rw [hr])]
  rw [hr]

/-! ### Windows -/

/-- Short of a whole window the completion check takes the present W in force and changes nothing else (R49). -/
theorem State.checkWindow_of_lt {s : State} (h : s.ccu.pw < s.ccu.limits.window) :
    s.checkWindow = s.modCcu fun u => { u with windowInForce := u.limits.window } := by
  unfold State.checkWindow State.completeWindow
  exact if_neg (by simpa using h)

end Sys2Proof.Machine
end

