-- ==== Sys2Proof/Laws/Layout.lean ====
section
/-! SUPPORT. Lengths of the parts of a layout, and the numbers that their bytes read back as (R186, R187). -/

namespace Sys2Proof.Machine

open Sys2Proof

@[simp] theorem beBytes_length (w v : Nat) : (beBytes w v).length = w := by
  induction w generalizing v with
  | zero => rfl
  | succ w ih => simp [beBytes, ih]

@[simp] theorem num_length (w v : Nat) : (num w v).length = w := by unfold num; split <;> simp

@[simp] theorem flag_length (b : Bool) : (flag b).length = 1 := by simp [flag]

@[simp] theorem optNum_length (w : Nat) (o : Option Nat) : (optNum w o).length = w := by simp [optNum]

@[simp] theorem presence_length (n : Nat) (m : List Bool) : (presence n m).length = n := by
  induction n generalizing m with
  | zero => rfl
  | succ n ih => simp [presence, ih]; omega

@[simp] theorem signed4_length (v : Int) : (signed4 v).length = 4 := by unfold signed4; split <;> simp

/-- The bytes a content takes in Link Status (R177, R186). -/
theorem Content.bytes_length (c : Content) :
    c.bytes.length = match c with
      | .raw _ | .pump _ | .cause _ | .lostFrame _ => 1
      | .interval _ => 2
      | .depth _ | .slot _ _ | .droppedInterval _ | .droppedJob _ => 3
      | .jump _ => 4 := by
  cases c <;> simp [Content.bytes]

@[simp] theorem zeros_length (n : Nat) : (zeros n).length = n := by simp [zeros]

theorem flatten_length {w : Nat} {l : List (List Byte)} (h : ∀ x ∈ l, x.length = w) :
    l.flatten.length = l.length * w := by
  induction l with
  | nil => simp
  | cons x l ih =>
    simp only [List.flatten_cons, List.length_append, List.length_cons]
    rw [h x (by simp), ih (fun y hy => h y (List.mem_cons_of_mem _ hy))]
    ring

/-- A list at its greatest length has one length, whatever it holds (R187). -/
theorem listOf_length {most w : Nat} {l : List (List Byte)} (hl : l.length ≤ most) (h : ∀ x ∈ l, x.length = w) :
    (listOf most w l).length = 1 + most * w := by
  simp only [listOf, List.length_append, num_length, zeros_length, flatten_length h]
  have : l.length * w + (most - l.length) * w = most * w := by rw [← Nat.add_mul]; congr 1; omega
  omega

theorem pairBytes_length {most w1 w2 : Nat} {l : List (Nat × Nat)} (hl : l.length ≤ most) :
    (pairBytes most w1 w2 l).length = 1 + most * (w1 + w2) := by
  apply listOf_length (by simpa using hl)
  intro x hx
  simp only [List.mem_map] at hx
  obtain ⟨p, -, rfl⟩ := hx
  simp

theorem codeBytes_length {most : Nat} {l : List Nat} (hl : l.length ≤ most) :
    (listOf most 1 (l.map (num 1))).length = 1 + most * 1 := by
  apply listOf_length (by simpa using hl)
  intro x hx
  simp only [List.mem_map] at hx
  obtain ⟨p, -, rfl⟩ := hx
  simp

theorem tableBytes_length {n : Nat} (w : Nat) (v : Vector Nat n) : (tableBytes w v).length = n * w := by
  unfold tableBytes
  rw [flatten_length (w := w)]
  · simp
  · intro x hx
    simp only [List.mem_map] at hx
    obtain ⟨p, -, rfl⟩ := hx
    simp

@[simp] theorem tariffBytes_length (t : Tariff) (d h : Nat) : (tariffBytes t d h).length = 167 := by
  simp [tariffBytes, tableBytes_length]

theorem beVal_append (l : List Byte) (b : Byte) : beVal (l ++ [b]) = beVal l * 256 + b.toNat := by
  simp [beVal, List.foldl_append]

/-- The bytes of a number that fits read back as the number. -/
theorem beVal_beBytes (w v : Nat) (h : v < 256 ^ w) : beVal (beBytes w v) = v := by
  induction w generalizing v with
  | zero => simp at h; simp [beBytes, beVal, h]
  | succ w ih =>
    have hv : v / 256 < 256 ^ w := by
      rw [Nat.div_lt_iff_lt_mul (by norm_num)]
      rwa [pow_succ] at h
    rw [beBytes, beVal_append, ih _ hv]
    simp
    omega

theorem beVal_num {w v : Nat} (h : v < 256 ^ w) : beVal (num w v) = v := by
  unfold num
  rw [if_pos h]
  exact beVal_beBytes w v h

end Sys2Proof.Machine
end

