-- ==== Sys2Proof/Laws/PerInstr.lean ====
section
/-! SUPPORT. The family BodyLength: the body that carries a well-formed request has the one length its kind allows (R173,
R186). One lemma for each command; a command that is no request has no body. -/

namespace Sys2Proof.Laws.BodyLength

open Sys2Proof Machine

/-- The body of a well-formed request has the length its kind allows. -/
def Statement (i : Instr) : Prop :=
  WellFormed i = true → ∀ q, encodeRequest i = some q → q.2.2.2.length = bodyLength q.2.2.1

/-- The law for every command at once, case by case. -/
theorem all (i : Instr) : Statement i := by
  intro h q hq
  cases i
  case declareString | setHoleSections | setLithologyTable | mixReport =>
    obtain rfl := Option.some.inj hq
    simp only [WellFormed, pairsFit, Bool.and_eq_true, decide_eq_true_eq] at h
    simp [bodyLength, pairBytes_length (by tauto)]
  case logSample | setNoticeMasks | clearNotices =>
    obtain rfl := Option.some.inj hq
    simp only [WellFormed, codesFit, Bool.and_eq_true, decide_eq_true_eq] at h
    simp [bodyLength, codeBytes_length (by tauto)]
  all_goals
    cases hq <;> simp [bodyLength]

theorem coldStart (straps : Straps) (torn : TornWrite) (decay : List SlotDecay) : Statement (.coldStart straps torn decay) := all _

theorem startupLoadComplete : Statement (.startupLoadComplete) := all _

theorem timeBaseTick : Statement (.timeBaseTick) := all _

theorem pumpTimeout (pump : PumpId) : Statement (.pumpTimeout pump) := all _

theorem pinLevelChange (line : Fin 12) (high : Bool) (after : Nat) : Statement (.pinLevelChange line high after) := all _

theorem inputFilterExpiry (line : Fin 12) : Statement (.inputFilterExpiry line) := all _

theorem windowCompletion : Statement (.windowCompletion) := all _

theorem dueDetection : Statement (.dueDetection) := all _

theorem windowExpiry : Statement (.windowExpiry) := all _

theorem interByteTimeout (ln : Link) : Statement (.interByteTimeout ln) := all _

theorem frameDiscard (ln : Link) (cause : FrameCause) : Statement (.frameDiscard ln cause) := all _

theorem unknownKind (ln : Link) (tag kind : Nat) : Statement (.unknownKind ln tag kind) := all _

theorem transmissionEnd (ln : Link) : Statement (.transmissionEnd ln) := all _

theorem eraseComplete (after : Nat) : Statement (.eraseComplete after) := all _

theorem writeComplete (verified : Bool) (after : Nat) : Statement (.writeComplete verified after) := all _

theorem setRodClass (ln : Link) (tag cls : Nat) (defined : Bool) (thread cap torque : Nat) : Statement (.setRodClass ln tag cls defined thread cap torque) := all _

theorem registerRod (ln : Link) (tag rod cls len : Nat) : Statement (.registerRod ln tag rod cls len) := all _

theorem layDownRod (ln : Link) (tag rod : Nat) : Statement (.layDownRod ln tag rod) := all _

theorem restoreRod (ln : Link) (tag rod : Nat) : Statement (.restoreRod ln tag rod) := all _

theorem retireRod (ln : Link) (tag rod : Nat) : Statement (.retireRod ln tag rod) := all _

theorem saveRods (ln : Link) (tag : Nat) : Statement (.saveRods ln tag) := all _

theorem setBha (ln : Link) (tag len cap thread : Nat) : Statement (.setBha ln tag len cap thread) := all _

theorem setDepthLimits (ln : Link) (tag cpm tol : Nat) : Statement (.setDepthLimits ln tag cpm tol) := all _

theorem setBlockHeight (ln : Link) (tag height : Nat) : Statement (.setBlockHeight ln tag height) := all _

theorem declareString (ln : Link) (tag len cap thread : Nat) (runs : List (Nat × Nat)) : Statement (.declareString ln tag len cap thread runs) := all _

theorem declareParted (ln : Link) (tag k : Nat) : Statement (.declareParted ln tag k) := all _

theorem readStringStatus (ln : Link) (tag : Nat) : Statement (.readStringStatus ln tag) := all _

theorem readStringList (ln : Link) (tag pos : Nat) : Statement (.readStringList ln tag pos) := all _

theorem readRod (ln : Link) (tag rod : Nat) : Statement (.readRod ln tag rod) := all _

theorem readRodTable (ln : Link) (tag start : Nat) : Statement (.readRodTable ln tag start) := all _

theorem pick (ln : Link) (tag rod : Nat) : Statement (.pick ln tag rod) := all _

theorem stab (ln : Link) (tag : Nat) : Statement (.stab ln tag) := all _

theorem madeUp (ln : Link) (tag torque : Nat) : Statement (.madeUp ln tag torque) := all _

theorem abortAdd (ln : Link) (tag : Nat) : Statement (.abortAdd ln tag) := all _

theorem breakOut (ln : Link) (tag : Nat) : Statement (.breakOut ln tag) := all _

theorem broken (ln : Link) (tag : Nat) : Statement (.broken ln tag) := all _

theorem racked (ln : Link) (tag : Nat) : Statement (.racked ln tag) := all _

theorem laidDown (ln : Link) (tag : Nat) : Statement (.laidDown ln tag) := all _

theorem acknowledgeFault (ln : Link) (tag resolution : Nat) : Statement (.acknowledgeFault ln tag resolution) := all _

theorem readConnectionStatus (ln : Link) (tag : Nat) : Statement (.readConnectionStatus ln tag) := all _

theorem setPump (ln : Link) (tag pump disp eff timeout : Nat) : Statement (.setPump ln tag pump disp eff timeout) := all _

theorem setCirculationLimits (ln : Link) (tag gainT fullT totalT window pulse : Nat) : Statement (.setCirculationLimits ln tag gainT fullT totalT window pulse) := all _

theorem readCirculationStatus (ln : Link) (tag : Nat) : Statement (.readCirculationStatus ln tag) := all _

theorem setHoleSections (ln : Link) (tag : Nat) (sections : List (Nat × Nat)) (surface : Nat) : Statement (.setHoleSections ln tag sections surface) := all _

theorem readLagGeometry (ln : Link) (tag : Nat) : Statement (.readLagGeometry ln tag) := all _

theorem setSampleWindow (ln : Link) (tag volume level : Nat) : Statement (.setSampleWindow ln tag volume level) := all _

theorem logSample (ln : Link) (tag interval code : Nat) (colour : Option Nat) (notes : List Nat) : Statement (.logSample ln tag interval code colour notes) := all _

theorem readCuttingsQueue (ln : Link) (tag pos : Nat) : Statement (.readCuttingsQueue ln tag pos) := all _

theorem setIntervalStep (ln : Link) (tag step : Nat) : Statement (.setIntervalStep ln tag step) := all _

theorem setLithologyTable (ln : Link) (tag : Nat) (entries : List (Nat × Nat)) : Statement (.setLithologyTable ln tag entries) := all _

theorem reportWaterStrike (ln : Link) (tag depth : Nat) : Statement (.reportWaterStrike ln tag depth) := all _

theorem addNote (ln : Link) (tag interval note : Nat) : Statement (.addNote ln tag interval note) := all _

theorem readStrataStatus (ln : Link) (tag : Nat) : Statement (.readStrataStatus ln tag) := all _

theorem readLithologyTable (ln : Link) (tag : Nat) : Statement (.readLithologyTable ln tag) := all _

theorem readStrata (ln : Link) (tag index : Nat) : Statement (.readStrata ln tag index) := all _

theorem readStrataLatest (ln : Link) (tag job : Nat) : Statement (.readStrataLatest ln tag job) := all _

theorem downtimeStart (ln : Link) (tag kind : Nat) : Statement (.downtimeStart ln tag kind) := all _

theorem downtimeEnd (ln : Link) (tag : Nat) : Statement (.downtimeEnd ln tag) := all _

theorem mixReport (ln : Link) (tag litres : Nat) (entries : List (Nat × Nat)) : Statement (.mixReport ln tag litres entries) := all _

theorem readJobMeters (ln : Link) (tag : Nat) : Statement (.readJobMeters ln tag) := all _

theorem setTariffs (ln : Link) (tag : Nat) (table : Tariff) (drillHold tripHold : Nat) : Statement (.setTariffs ln tag table drillHold tripHold) := all _

theorem statement (ln : Link) (tag : Nat) : Statement (.statement ln tag) := all _

theorem jobOpen (ln : Link) (tag job client start : Nat) : Statement (.jobOpen ln tag job client start) := all _

theorem jobClose (ln : Link) (tag : Nat) : Statement (.jobClose ln tag) := all _

theorem readTariffs (ln : Link) (tag : Nat) : Statement (.readTariffs ln tag) := all _

theorem saveSettings (ln : Link) (tag : Nat) : Statement (.saveSettings ln tag) := all _

theorem readJob (ln : Link) (tag index part : Nat) : Statement (.readJob ln tag index part) := all _

theorem readSettingsImage (ln : Link) (tag part : Nat) : Statement (.readSettingsImage ln tag part) := all _

theorem readRodsImage (ln : Link) (tag start : Nat) : Statement (.readRodsImage ln tag start) := all _

theorem readStoreStatus (ln : Link) (tag : Nat) : Statement (.readStoreStatus ln tag) := all _

theorem setLineFunction (ln : Link) (tag line function polarity filter : Nat) : Statement (.setLineFunction ln tag line function polarity filter) := all _

theorem driveGeneralOutput (ln : Link) (tag line level : Nat) : Statement (.driveGeneralOutput ln tag line level) := all _

theorem readLineStatus (ln : Link) (tag : Nat) : Statement (.readLineStatus ln tag) := all _

theorem linkReset (ln : Link) (tag : Nat) : Statement (.linkReset ln tag) := all _

theorem linkStatus (ln : Link) (tag : Nat) : Statement (.linkStatus ln tag) := all _

theorem clearLock (ln : Link) (tag : Nat) : Statement (.clearLock ln tag) := all _

theorem setNoticeMasks (ln : Link) (tag : Nat) (conds : List Nat) (latchWhileMasked : Bool) : Statement (.setNoticeMasks ln tag conds latchWhileMasked) := all _

theorem clearNotices (ln : Link) (tag : Nat) (conds : List Nat) : Statement (.clearNotices ln tag conds) := all _

theorem byteArrival (ln : Link) (byte : Byte) (after : Nat) : Statement (.byteArrival ln byte after) := all _

theorem powerLoss (torn : TornWrite) : Statement (.powerLoss torn) := all _

end Sys2Proof.Laws.BodyLength
end

