-- ==== Sys2Proof/Laws/Store.lean ====
section
/-! SUPPORT. The rings of the record store: every operation keeps the canonical form, and a slot reads back what was written
(R140, R141, R145). -/

namespace Sys2Proof.Machine

open Sys2Proof

variable {blocks per : Nat} {α : Type}

/-- The canonical form, as a fact about the indices. -/
theorem Ring.wf_iff (r : Ring blocks per α) :
    r.wf = true ↔ (r.slots.map (·.1)).Pairwise (· < ·) ∧ ∀ p ∈ r.slots, p.1 < blocks * per := by
  simp [Ring.wf, strictlyRising_iff]

/-- A write keeps the canonical form. -/
theorem Ring.wf_write {r : Ring blocks per α} (h : r.wf = true) (i : Nat) (x : Slot α) : (r.write i x).wf = true := by
  unfold Ring.write
  split
  next hi =>
    rw [Ring.wf_iff] at h ⊢
    refine ⟨insertRising_rising _ _ _ h.1, fun p hp => ?_⟩
    rcases mem_insertRising _ _ _ _ hp with rfl | hp
    · exact hi
    · exact h.2 p hp
  next => exact h

/-- An erase keeps the canonical form. -/
theorem Ring.wf_erase {r : Ring blocks per α} (h : r.wf = true) (b : Nat) : (r.erase b).wf = true := by
  rw [Ring.wf_iff] at h ⊢
  refine ⟨?_, fun p hp => h.2 p (List.mem_of_mem_filter hp)⟩
  exact h.1.sublist (List.Sublist.map _ List.filter_sublist)

/-- Bits that go wrong keep the canonical form. -/
theorem Ring.wf_decay {r : Ring blocks per α} (h : r.wf = true) (i n : Nat) : (r.decay i n).wf = true := by
  rw [Ring.wf_iff] at h ⊢
  have hk : (r.decay i n).slots.map (·.1) = r.slots.map (·.1) := by
    unfold Ring.decay
    simp only [List.map_map]
    apply List.map_congr_left
    intro p _
    simp only [Function.comp]
    split <;> rfl
  refine ⟨hk ▸ h.1, fun p hp => ?_⟩
  have : p.1 ∈ (r.decay i n).slots.map (·.1) := List.mem_map_of_mem hp
  rw [hk, List.mem_map] at this
  obtain ⟨q, hq, e⟩ := this
  exact e ▸ h.2 q hq

/-- A cut-off write keeps the canonical form. -/
theorem Ring.wf_tear {r : Ring blocks per α} (h : r.wf = true) (i : Nat) (x : Option (Slot α)) : (r.tear i x).wf = true := by
  cases x with
  | none => exact h
  | some y => exact Ring.wf_write h i y

/-- The blank store has the canonical form. -/
theorem areas_blank_wf : Areas.blank.strata.wf = true ∧ Areas.blank.jobs.wf = true := by decide

theorem find_insertRising_same (i : Nat) (x : α) (l : List (Nat × α)) :
    (insertRising (·.1) (i, x) l).find? (fun p => p.1 == i) = some (i, x) := by
  induction l with
  | nil => simp [insertRising]
  | cons y l ih =>
    unfold insertRising
    split
    · simp
    · split
      · simp
      next h1 h2 =>
        have : (y.1 == i) = false := by simpa using fun e => h2 e.symm
        simp [this, ih]

theorem find_insertRising_ne {i j : Nat} (h : j ≠ i) (x : α) (l : List (Nat × α)) :
    (insertRising (·.1) (i, x) l).find? (fun p => p.1 == j) = l.find? (fun p => p.1 == j) := by
  have hij : (i == j) = false := by simpa using fun e => h e.symm
  induction l with
  | nil => simp [insertRising, hij]
  | cons y l ih =>
    unfold insertRising
    split
    · simp [List.find?_cons, hij]
    · split
      next h1 h2 =>
        have : (y.1 == j) = false := by
          have h2' : i = y.1 := h2
          simpa using fun e : y.1 = j => h (e.symm.trans h2'.symm)
        simp [hij, this]
      next => simp only [List.find?_cons, ih]

/-- A slot of the ring reads back what was written in it. -/
theorem Ring.get_write_same (r : Ring blocks per α) {i : Nat} (hi : i < blocks * per) (x : Slot α) :
    (r.write i x).get i = some x := by
  simp [Ring.write, hi, Ring.get, find_insertRising_same]

/-- A write leaves every other slot as it was. -/
theorem Ring.get_write_ne (r : Ring blocks per α) {i j : Nat} (h : j ≠ i) (x : Slot α) : (r.write i x).get j = r.get j := by
  unfold Ring.write
  split
  · simp [Ring.get, find_insertRising_ne h]
  · rfl

/-- The slots of an erased block are BLANK. -/
theorem Ring.get_erase_same (r : Ring blocks per α) {i b : Nat} (h : i / per = b) : (r.erase b).get i = none := by
  unfold Ring.get Ring.erase
  simp only [Option.map_eq_none_iff, List.find?_eq_none, List.mem_filter]
  rintro p ⟨-, hp⟩ he
  simp at he hp
  exact hp (he ▸ h)

/-- The slots of every other block are left as they were. -/
theorem Ring.get_erase_ne (r : Ring blocks per α) {i b : Nat} (h : i / per ≠ b) : (r.erase b).get i = r.get i := by
  unfold Ring.get Ring.erase
  congr 1
  induction r.slots with
  | nil => rfl
  | cons p l ih =>
    rw [List.filter_cons]
    by_cases hp : p.1 = i
    · simp [hp, h]
    · have hp' : (p.1 == i) = false := by simpa using hp
      split <;> simp [hp', ih]

/-- The rings of the store right after reset are in their canonical form. -/
theorem reset_rings_wf : State.reset.rst.areas.strata.wf = true ∧ State.reset.rst.areas.jobs.wf = true := ⟨rfl, rfl⟩

end Sys2Proof.Machine
end

