-- ==== Sys2Proof/Tests/Slice0.lean ====
section
/-! SUPPORT. Tests: what `WellFormed` refuses, figures the spec works out, and for every statement with hypotheses a state and
operands that meet them. Expected figures are the spec's; the rule or the worked sequence stands in the docstring. -/

namespace Sys2Proof.Tests

open Sys2Proof Machine

/-! ### Small states -/

/-- The machine after the start-up load. -/
def ready : State := { State.reset with loaded := true }

/-- The state a command leaves. -/
def run (c : Instr) (s : State) : State :=
  match exec c s with
  | .next t => t
  | _ => s

/-- The status of the reply a link is sending first. -/
def sent (s : State) (ln : Link) : Option Status :=
  match (s.link ln).sending with
  | some (.reply r _) => some r.status
  | _ => none

/-- Rod class 1 of the worked sequences: thread 3, 6,221 mL/m. -/
def classOne : RodClass := ⟨3, 6221, 3000⟩

/-- A string of one rod on a BHA, the slips set; rod 2 in the rack, rod 3 laid down, rod 4 lost. -/
def rig : State :=
  { ready with
    str := { ready.str with
      classes := #v[some classOne, none, none, none]
      rods := [⟨1, 1, 6000, 1, .string⟩, ⟨2, 1, 6000, 4, .rack⟩, ⟨3, 1, 6000, 0, .laidDown⟩, ⟨4, 1, 6000, 9, .lost⟩]
      bha := some ⟨9500, 12668, 3⟩, list := [1], slips := .set, d := 15500, hole := 15500 } }

/-- The rig with another connection state and rod in handling. -/
def rigIn (c : ConnState) (rod : Option Nat) : State := { rig with cxu := { state := c, handling := rod, last := none } }

/-- The rig with rod 2 in handling. -/
def adding (c : ConnState) : State :=
  let s := rigIn c (some 2)
  { s with str := { s.str with rods := setRodState s.str.rods 2 .handling } }

/-- The rig with rod 1 broken out. -/
def broken (c : ConnState) : State :=
  let s := rigIn c (some 1)
  { s with str := { s.str with rods := setRodState s.str.rods 1 .handling, list := [] } }

/-- The record of interval `n` of job 417 in a job that began at 10,000 mm with a step of 1,000 mm. -/
def recordOf (n : Nat) : StrataRec :=
  { job := 417, interval := n, top := 10000 + 1000 * n, bottom := 11000 + 1000 * n, seconds := 60, rate := some 60000
    worst := .circulating, strike := none, lith := none, colour := none, rock := .unknown, status := none, notes := []
    closeTime := 100 }

/-- An open job: intervals 0 to 4 closed, interval 5 open, its hole at 15,500 mm; interval 2 waits final, 3 is due, 4 rises. -/
def drilling : State :=
  { rig with
    jmu := { rig.jmu with state := .opened, ident := some ⟨417, 9, 10000⟩, clock := 100, meters := #v[100, 0, 0, 0, 0, 0, 0]
                          pendingMm := 2500 }
    ccu := { rig.ccu with
      state := .circulating, lift := 7188648
      p1 := { rig.ccu.p1 with const := ⟨some 8470, 950, 6⟩, vol := 7188648, running := true, countdown := 6 } }
    slu := { rig.slu with
      anchor := some 10000, closed := 5, lith := [⟨12, .hard⟩]
      openIv := some { number := 5, top := 15000, bottom := 16000, drilled := 500, seconds := 30, worst := .circulating
                       strike := none, notes := [] } }
    lgu := { rig.lgu with parcels :=
      [⟨7000000, 7000000, .finalWaiting, none, { recordOf 2 with status := some .missed }⟩,
       ⟨7186713, 7186713, .due, some 7336713, recordOf 3⟩, ⟨7402000, 7402000, .inFlight, none, recordOf 4⟩] } }

/-- The drilling rig, its slips set, with bit and hole 400 mm above the computed value. -/
def above : State := drilling.modStr fun u => { u with d := 15100, hole := 15100 }

/-- An idle store at work on one entry. -/
def storing (c : Ctl) (q : List Entry) (s : State) : State := { s with rst := { s.rst with ctl := c, queue := q } }

/-- Does the link take a request of this kind to its owner? -/
def takes (s : State) (ln : Link) (k : Kind) : Bool :=
  decide (s.power = .on) && s.loaded && !s.repliesFull ln && !s.outstanding ln
    && (decide ((s.link ln).state = .active) || k.passesLock) && permits (s.link ln).effective k

theorem canTake_of {s : State} {ln : Link} {k : Kind} (h : takes s ln k = true) : CanTake s ln k := by
  simp only [takes, Bool.and_eq_true, Bool.or_eq_true, decide_eq_true_eq, Bool.not_eq_true'] at h
  obtain ⟨⟨⟨⟨⟨a, b⟩, c⟩, d⟩, e⟩, f⟩ := h
  exact ⟨⟨a, b⟩, c, d, e, f⟩

/-! ### What WellFormed refuses -/

/-- The tariff table of the smoke tests. -/
def anyTariff : Tariff := Tariff.dflt

theorem test_ill_straps : WellFormed (.coldStart ⟨.observer, .handler, .mud, .office, .baud57600⟩ .blank []) = false := by
  decide
theorem test_ill_decay :
    (WellFormed (.coldStart ⟨.driller, .handler, .mud, .office, .baud57600⟩ .blank [⟨.settings, 2, 1⟩])
      || WellFormed (.coldStart ⟨.driller, .handler, .mud, .office, .baud57600⟩ .blank [⟨.strata, 8192, 1⟩])
      || WellFormed (.coldStart ⟨.driller, .handler, .mud, .office, .baud57600⟩ .blank [⟨.jobs, 64, 1⟩])) = false := by
  decide
theorem test_ill_link_events :
    [Instr.frameDiscard .a .timeout, .unknownKind .a 0 63, .unknownKind .a 256 64, .unknownKind .a 0 256].all
      (fun c => !WellFormed c) = true := by decide
theorem test_ill_tags :
    [Instr.saveRods .b 256, .readStringStatus .a 256, .stab .b 256, .abortAdd .b 256, .breakOut .b 256, .broken .b 256,
      .racked .b 256, .laidDown .b 256, .readConnectionStatus .a 256, .readCirculationStatus .a 256, .readLagGeometry .a 256,
      .readStrataStatus .a 256, .readLithologyTable .a 256, .downtimeEnd .a 256, .readJobMeters .a 256, .statement .d 256,
      .jobClose .d 256, .readTariffs .d 256, .saveSettings .d 256, .readStoreStatus .d 256, .readLineStatus .d 256,
      .linkReset .a 256, .linkStatus .a 256, .clearLock .a 256].all (fun c => !WellFormed c) = true := by decide
theorem test_ill_rods :
    [Instr.setRodClass .b 0 256 true 3 6221 3000, .setRodClass .b 0 1 true 256 6221 3000,
      .setRodClass .b 0 1 true 3 16777216 3000, .setRodClass .b 0 1 true 3 6221 65536, .registerRod .b 0 65536 1 6000,
      .registerRod .b 0 1 256 6000, .registerRod .b 0 1 1 16777216, .layDownRod .b 0 65536, .restoreRod .b 0 65536,
      .retireRod .b 0 65536, .readRod .b 0 65536, .readRodTable .b 0 65536, .pick .b 0 65536].all
      (fun c => !WellFormed c) = true := by decide
theorem test_ill_string :
    [Instr.setBha .a 0 16777216 500 3, .setBha .a 0 9500 16777216 3, .setBha .a 0 9500 500 256,
      .setDepthLimits .a 0 65536 500, .setDepthLimits .a 0 4000 16777216, .setBlockHeight .a 0 16777216,
      .declareString .a 0 16777216 500 3 [], .declareString .a 0 9500 16777216 3 [], .declareString .a 0 9500 500 256 [],
      .declareString .a 0 9500 500 3 (List.replicate 81 (1, 1)), .declareString .a 0 9500 500 3 [(65536, 1)],
      .declareString .a 0 9500 500 3 [(1, 256)], .declareParted .a 0 65536, .readStringList .a 0 65536, .madeUp .b 0 65536,
      .acknowledgeFault .a 0 256].all (fun c => !WellFormed c) = true := by decide
theorem test_ill_circulation :
    [Instr.setPump .c 0 256 8470 950 6, .setPump .c 0 1 1099511627776 950 6, .setPump .c 0 1 8470 65536 6,
      .setPump .c 0 1 8470 950 4294967296, .setCirculationLimits .c 0 65536 900 100 200000 500,
      .setCirculationLimits .c 0 1100 65536 100 200000 500, .setCirculationLimits .c 0 1100 900 65536 200000 500,
      .setCirculationLimits .c 0 1100 900 100 16777216 500, .setCirculationLimits .c 0 1100 900 100 200000 1099511627776].all
      (fun c => !WellFormed c) = true := by decide
theorem test_ill_lag_and_log :
    [Instr.setHoleSections .a 0 (List.replicate 9 (1, 1)) 0, .setHoleSections .a 0 [(16777216, 1)] 0,
      .setHoleSections .a 0 [(1, 16777216)] 0, .setHoleSections .a 0 [(1, 1)] 16777216, .setSampleWindow .a 0 16777216 8,
      .setSampleWindow .a 0 1 256, .logSample .a 0 65536 1 none [], .logSample .a 0 1 256 none [],
      .logSample .a 0 1 1 (some 256) [], .logSample .a 0 1 1 none [1, 1, 1, 1], .logSample .a 0 1 1 none [256],
      .readCuttingsQueue .a 0 256, .setIntervalStep .a 0 16777216, .setLithologyTable .a 0 (List.replicate 64 (1, 1)),
      .setLithologyTable .a 0 [(256, 1)], .setLithologyTable .a 0 [(1, 256)], .reportWaterStrike .a 0 16777216,
      .addNote .a 0 65536 1, .addNote .a 0 1 256, .readStrata .a 0 65536, .readStrataLatest .a 0 65536].all
      (fun c => !WellFormed c) = true := by decide
theorem test_ill_jobs :
    [Instr.downtimeStart .a 0 256, .mixReport .c 0 16777216 [], .mixReport .c 0 1 (List.replicate 9 (1, 1)),
      .mixReport .c 0 1 [(256, 1)], .mixReport .c 0 1 [(1, 65536)], .setTariffs .d 0 anyTariff 4294967296 300,
      .setTariffs .d 0 anyTariff 120 4294967296, .setTariffs .d 0 { anyTariff with bounds := #v[0, 1, 2, 3, 4, 16777216] } 120 300,
      .setTariffs .d 0 { anyTariff with metre := Vector.replicate 24 16777216 } 120 300,
      .setTariffs .d 0 { anyTariff with hourly := Vector.replicate 7 16777216 } 120 300,
      .setTariffs .d 0 { anyTariff with mud := 16777216 } 120 300,
      .setTariffs .d 0 { anyTariff with lostVolume := 16777216 } 120 300,
      .setTariffs .d 0 { anyTariff with additive := Vector.replicate 8 16777216 } 120 300,
      .setTariffs .d 0 { anyTariff with lostRod := Vector.replicate 4 16777216 } 120 300,
      .setTariffs .d 0 { anyTariff with lostBha := 16777216 } 120 300,
      .setTariffs .d 0 { anyTariff with mobilisation := 16777216 } 120 300, .jobOpen .d 0 65536 0 0,
      .jobOpen .d 0 1 4294967296 0, .jobOpen .d 0 1 0 16777216].all (fun c => !WellFormed c) = true := by decide
theorem test_ill_store_lines_links :
    [Instr.readJob .d 0 65536 1, .readJob .d 0 1 256, .readSettingsImage .d 0 256, .readRodsImage .d 0 65536,
      .setLineFunction .d 0 256 0 0 0, .setLineFunction .d 0 0 256 0 0, .setLineFunction .d 0 0 0 256 0,
      .setLineFunction .d 0 0 0 0 256, .driveGeneralOutput .d 0 256 0, .driveGeneralOutput .d 0 0 256,
      .setNoticeMasks .a 0 (List.replicate 24 1) true, .setNoticeMasks .a 0 [256] true,
      .clearNotices .a 0 (List.replicate 24 1), .clearNotices .a 0 [256]].all (fun c => !WellFormed c) = true := by decide

/-! ### Figures the spec gives -/

/-- R170's check value. -/
theorem test_crc_of_nine_digits : crc8 [49, 50, 51, 52, 53, 54, 55, 56, 57] = 244 := by decide +kernel

/-- The worked notice of chapter 12: SAMPLE_MISSED for interval 41 at job second 9,530. -/
theorem test_notice_on_the_wire :
    (noticeBytes ⟨.sampleMissed, .interval 41, 9530⟩).take 12 = [90, 11, 13, 0, 0, 0, 0, 0, 41, 0, 0, 37] := by decide

/-- A frame of R186: Pick (16) of rod 2 with tag 7. -/
theorem test_frame_of_pick : (frameOf 16 7 (num 2 2)).take 6 = [165, 4, 16, 7, 0, 2] := by decide

/-- The kind numbers R186 gives the first, a middle and the last request. -/
theorem test_kind_numbers : [Kind.setRodClass, .logSample, .jobClose, .clearNotices].map Kind.number = [1, 32, 49, 63] := by
  decide

/-- Chapter 3's strokes: 8,470 mL at 950 per mille makes 8,046 mL and 500 µL, then 8,047 mL. -/
theorem test_two_strokes :
    let p : Pump := { Pump.cold ⟨some 8470, 950, 6⟩ with vol := 0 }
    (p.afterStroke.vol, p.afterStroke.rem, p.afterStroke.afterStroke.vol, p.afterStroke.afterStroke.rem) =
      (8046, 500, 16093, 0) := by decide

/-- Chapter 3's windows 1, 4 and 7. -/
theorem test_returns_fractions :
    [returnsFraction 193500 201162, returnsFraction 12000 201163, returnsFraction 188000 201162] = [961, 59, 934] := by decide

/-- Chapter 3's loss zone: window 3 confirms PARTIAL_LOSS, window 5 is alone, window 7 confirms CIRCULATING. -/
theorem test_state_decisions :
    [decideState .circulating (some .partialLoss) .partialLoss, decideState .totalLoss (some .totalLoss) .partialLoss,
      decideState .totalLoss (some .circulating) .circulating, decideState .partialLoss (some .partialLoss) .totalLoss] =
      [.partialLoss, .totalLoss, .circulating, .totalLoss] := by decide

/-- Chapter 4's worked case: 2,006,713 mL of annulus in 21 segments. -/
theorem test_annulus :
    let rods := (List.range 19).map fun k => (⟨k + 1, 1, 6000, 0, .string⟩ : Rod)
    let u : StringUnit := { rig.str with rods, list := rods.map (·.id), d := 120000, hole := 120000 }
    let hole : List Section := [⟨48000, 31416⟩, ⟨1500000, 18146⟩]
    ((annulus u hole).volume, (segments u hole).length, u.length) = (2006713, 21, 123500) := by decide +kernel

/-- Chapter 7's interval 26, from 119,500 to 120,250 mm as HARD: 500 mm in band 2, 250 mm in band 3. -/
theorem test_split_at_a_band :
    let cells := creditCells #v[0, 60000, 120000, 200000, 350000, 600000] 119500 120250 .hard (Vector.replicate 24 0)
    (cells[6], cells[10], cells.toList.sum) = (500, 250, 750) := by decide +kernel

/-- Chapter 8's worked lines: metre cell, DRILLING, mud mixed, lost volume. -/
theorem test_statement_amounts :
    let s : State := { ready with
      ccu := { ready.ccu with lost := 416137 }
      jmu := { ready.jmu with
        state := .opened, cells := (Vector.replicate 24 0).set 6 37250, meters := #v[15397, 0, 0, 0, 0, 0, 0], mud := 42000000
        tariff := { Tariff.dflt with
          metre := Vector.replicate 24 4850, hourly := Vector.replicate 7 9000, mud := 18500, lostVolume := 12000 } } }
    ([6, 24, 31, 32].map fun i => ((s.compose true).lines[i]?).map (·.amount)) =
      [some 180663, some 38493, some 777000, some 4994] ∧ (s.compose true).total = 1001150 := by decide +kernel

/-- Chapter 1's release: 800 mm over a tolerance of 500 moves the offset and keeps d. -/
theorem test_jump_at_release :
    let s : State := { rig with
      flu := { rig.flu with encoderCount := 34800 }
      str := { rig.str with
        rods := [⟨1, 1, 120000, 0, .string⟩], list := [1], d := 120000, hole := 120000 } }
    (s.slipsReleasedEdge.str.offset, s.slipsReleasedEdge.str.d, s.slipsReleasedEdge.height) = (800, 120000, 9500) := by
  decide +kernel

/-- Chapter 10's steps: 10 to 11 is up, 11 to 00 illegal. -/
theorem test_encoder_steps :
    let s : State := { rig with flu := { rig.flu with encRef := some (true, false), encoderCount := 14000 } }
    ((s.encoderPair (true, true)).flu.encoderCount, (s.encoderPair (false, true)).flu.encoderCount,
      (s.encoderPair (false, true)).flu.illegalSteps) = (14001, 14000, 1) := by decide +kernel

/-- A cold start with a blank store and the straps of `State.reset` gives it (R154, R185). -/
theorem test_cold_start_of_a_blank_part :
    run (.coldStart ⟨.driller, .handler, .mud, .office, .baud57600⟩ .blank []) State.reset = State.reset := by decide +kernel

/-! ### Witnesses: queue, cold start, frames -/

/-- Every kind of request is taken to its owner on some link, right after the start-up load: the premise `CanTake`. -/
theorem witness_every_kind_can_be_taken :
    Kind.all.all (fun k => [Link.a, .b, .c, .d].any fun ln => takes ready ln k) = true := by decide +kernel

/-- An erase of STRATA block 6. -/
def erase6 : Erase := ⟨.strata, 6, 0, 0, 0⟩

/-- The rig with its store erasing for an entry, after `n` suspensions. -/
def erasing (n : Nat) : State :=
  { rig with rst := { rig.rst with ctl := .erasing { erase6 with suspensions := n }, queue := [⟨.strata (recordOf 5), 0⟩] } }

/-- The same store suspended, with these reads in its list. -/
def suspended (reads : List PendingRead) : State :=
  { rig with rst := { rig.rst with
      ctl := .suspended { erase6 with suspensions := 1 }, queue := [⟨.strata (recordOf 5), 0⟩], readList := reads } }

/-- A pending read of link A. -/
def waiting : PendingRead := ⟨.a, 1, .strata 0⟩

theorem witness_StepRunsFrontCommand :
    State.reset.pending = [] ∧ (∀ e, State.reset.rst.ctl ≠ .suspended e)
      ∧ (suspended []).power = .on ∧ (suspended []).pending = []
      ∧ (suspended []).rst.ctl = .suspended { erase6 with suspensions := 1 } ∧ (suspended []).rst.readList = []
      ∧ (suspended [waiting]).rst.readList = waiting :: [] :=
  ⟨rfl, (by intro e h; cases h), rfl, rfl, rfl, rfl, rfl⟩

theorem witness_StartupLoadDrivesOutputs : State.reset.power = .on ∧ State.reset.loaded = false := ⟨rfl, rfl⟩

/-- A rig whose store is writing an entry. -/
def writingOf (b : EntryBody) : State :=
  { rig with rst := { rig.rst with ctl := .writing, queue := [⟨b, 0⟩] } }

/-- A rig with one written strata slot in block 31 and none else. -/
def oneWritten : State :=
  { rig with rst := { rig.rst with
      areas := { rig.rst.areas with
        strata := rig.rst.areas.strata.write 8191 (.written (recordOf 5) 0)
        jobs := rig.rst.areas.jobs.write 15 .void } } }

theorem witness_StoreOverPowerLossAndColdStart :
    rig.rst.ctl ≠ .writing
      ∧ (writingOf (.strata (recordOf 5))).rst.ctl = .writing
      ∧ (writingOf (.strata (recordOf 5))).rst.queue = ⟨.strata (recordOf 5), 0⟩ :: []
      ∧ (writingOf (.strata (recordOf 5))).rst.strataPos < 8192 ∧ (writingOf (.rods [])).rst.jobsPos < 64
      ∧ rig.rst.areas = Areas.blank ∧ RingsOk oneWritten
      ∧ oneWritten.rst.areas.strata.seq 31 = some 1 ∧ oneWritten.rst.areas.strata.get 8191 ≠ none
      ∧ oneWritten.rst.areas.jobs.seq 0 = some 1 ∧ oneWritten.rst.areas.jobs.get 15 ≠ none :=
  ⟨by decide, rfl, rfl, by decide, by decide, rfl, ⟨by decide +kernel, by decide +kernel⟩,
    by decide +kernel, by decide +kernel, by decide +kernel, by decide +kernel⟩

/-- The last slots of a ring and of a block written: the positions go on to index 0 and to the next block (R141). A write cut
off at power loss leaves its slot damaged, and it is passed over (R141). -/
theorem test_positions_at_cold_start :
    let t := run (.coldStart ⟨.driller, .handler, .mud, .office, .baud57600⟩ .blank []) oneWritten
    let u := run (.coldStart ⟨.driller, .handler, .mud, .office, .baud57600⟩ .damaged []) (writingOf (.strata (recordOf 5)))
    (t.rst.strataPos, t.rst.jobsPos, u.rst.strataPos, readOut (u.rst.areas.strata.get 0)) = (0, 16, 1, .damaged) := by
  decide +kernel

/-- A rods image with one wrong bit loads corrected, with two it fails and the table is empty (R154, R21). -/
theorem test_load_of_rods :
    let part (n : Nat) : State :=
      { rig with rst := { rig.rst with
          areas := { rig.rst.areas with rods := ⟨some .void, some (.written [⟨7, 1, 6000, 2, some .lost⟩] n)⟩ } } }
    let cold (n : Nat) := run (.coldStart ⟨.driller, .handler, .mud, .office, .baud57600⟩ .blank []) (part n)
    ((cold 1).rst.loadRods, (cold 1).str.rods, (cold 2).rst.loadRods, (cold 2).str.rods) =
      (.corrected, [⟨7, 1, 6000, 2, .lost⟩], .failedCheck, []) := by decide +kernel

/-- Links A, B and D strapped DRILLER, C strapped MUD. -/
def doubled : Straps := ⟨.driller, .driller, .mud, .driller, .baud57600⟩

theorem witness_EffectiveRoles :
    (∃ earlier : Link, earlier.code < Link.b.code ∧ doubled.role earlier = doubled.role .b)
      ∧ (∀ earlier : Link, earlier.code < Link.c.code → doubled.role earlier ≠ doubled.role .c)
      ∧ Link.b ≠ .d
      ∧ ((run (.coldStart doubled .blank []) ready).link .b).effective =
          ((run (.coldStart doubled .blank []) ready).link .d).effective :=
  ⟨⟨.a, by decide, rfl⟩, by intro e; cases e <;> decide, by decide, by decide +kernel⟩

theorem witness_FrameBytesDeliverTheRequest :
    WellFormed (.pick .b 255 65535) = true ∧ encodeRequest (.pick .b 255 65535) = some (.b, 255, .pick, [255, 255])
      ∧ ready.Ready ∧ (ready.link .b).rx = .hunting := ⟨by decide, by decide, ⟨rfl, rfl⟩, rfl⟩

theorem witness_DecodeReadsBackEncode :
    WellFormed (.setLithologyTable .a 0 [(63, 2)]) = true
      ∧ (encodeRequest (.setLithologyTable .a 0 [(63, 2)])).isSome = true := by decide +kernel

/-- Two requests outstanding nowhere, one reply list full, one link locked. -/
theorem witness_RequestTaking :
    (encodeRequest (.stab .b 1)).isSome = true ∧ ready.Ready ∧ (0 = 0 ∨ 63 < 0) ∧ 63 < 64 ∧ ready.repliesFull .b = false
      ∧ CanTake ready .b .pick ∧ Kind.pick ≠ .linkReset ∧ ([] : List Byte).length ≠ bodyLength .pick
      ∧ CanTake (ready.modLink .a fun l => { l with state := .locked }) .a .clearLock :=
  ⟨by decide, ⟨rfl, rfl⟩, .inl rfl, by decide, by decide, canTake_of (by decide), by decide, by decide, canTake_of (by decide)⟩

/-- A role violation locks the link (R173, case 5). -/
theorem test_role_violation :
    let t := run (.jobClose .a 1) ready
    ((t.link .a).state, (t.link .a).violation, sent t .a) = (.locked, some .jobClose, some .roleViolation) := by
  decide +kernel

/-! ### Witnesses: rods, string, connections -/

theorem witness_RodClassesAndRegistration : CanTake rig .b .setRodClass ∧ CanTake rig .b .registerRod :=
  ⟨canTake_of (by decide), canTake_of (by decide)⟩

theorem witness_RodRegistryMoves : CanTake rig .b .layDownRod ∧ CanTake rig .b .restoreRod ∧ CanTake rig .b .retireRod :=
  ⟨canTake_of (by decide), canTake_of (by decide), canTake_of (by decide)⟩

/-- Rod 2 laid down, rod 3 restored, rod 4 retired (R4, R5). -/
theorem test_rod_moves :
    ((findRod (run (.layDownRod .b 0 2) rig).str.rods 2).map (·.state),
      (findRod (run (.restoreRod .b 0 3) rig).str.rods 3).map (·.state), findRod (run (.retireRod .b 0 4) rig).str.rods 4) =
      (some .laidDown, some .rack, none) := by decide +kernel

/-- A part whose four configuration marks have been reported. -/
def configured : State := { rig with rst := { rig.rst with unconfigured := false } }

/-- Twelve strata records wait in the commit queue. -/
def fullQueue : List Entry := (List.range 12).map fun n => ⟨.strata (recordOf n), 0⟩

/-- The store at work on one settings image with another one waiting. -/
def twoImages : Store :=
  { rig.rst with ctl := .writing, queue := [⟨.settings Settings.dflt, 0⟩, ⟨.rods [], 0⟩, ⟨.settings Settings.dflt, 0⟩] }

/-- A strata block in the way of the write position, with a protect mark. -/
def blockAhead (mark : Option Nat) : State :=
  { rig with rst := { rig.rst with
      areas := { rig.rst.areas with strata := rig.rst.areas.strata.write 0 (.written (recordOf 5) 0) }
      protect := mark, queue := [⟨.strata (recordOf 6), 0⟩] } }

theorem witness_OffersAndHeads :
    CanTake rig .b .saveRods ∧ CanTake rig .d .saveSettings ∧ rig.rst.unconfigured = true
      ∧ CanTake configured .d .saveSettings ∧ configured.rst.unconfigured = false
      ∧ (storing .failed [] rig).rst.ctl = .failed
      ∧ (twoImages.ctl ≠ .failed ∧ twoImages.ctl ≠ .ready
        ∧ twoImages.queue = [⟨.settings Settings.dflt, 0⟩, ⟨.rods [], 0⟩] ++ ⟨.settings Settings.dflt, 0⟩ :: [])
      ∧ rig.rst.ctl ≠ .failed ∧ rig.rst.queue.length < 12 ∧ 12 ≤ (storing .ready fullQueue rig).rst.queue.length
      ∧ (blockAhead none).rst.areas.strata.get 0 ≠ none ∧ (blockAhead (some 1)).rst.areas.strata.seq 0 = some 1
      ∧ rig.rst.ctl = .ready ∧ (blockAhead none).rst.queue = ⟨.strata (recordOf 6), 0⟩ :: []
      ∧ (storing .ready [⟨.strata (recordOf 6), 0⟩] rig).rst.startOf ⟨.strata (recordOf 6), 0⟩ = .write
      ∧ (blockAhead (some 2)).rst.startOf ⟨.strata (recordOf 6), 0⟩ = .erase .strata 0
      ∧ (blockAhead (some 1)).rst.startOf ⟨.strata (recordOf 6), 0⟩ = .blocked :=
  ⟨canTake_of (by decide), canTake_of (by decide), rfl, canTake_of (by decide), rfl, rfl, by decide +kernel, by decide, by decide,
    by decide, by decide +kernel, by decide +kernel, rfl, rfl, by decide +kernel, by decide +kernel, by decide +kernel⟩

/-- A queued image gives way in its place and keeps its failure count; the taken one does not (R142). A block at the protect
mark is not erased: the record is dropped (R145). -/
theorem test_offers_and_drop :
    let x : EntryBody := .settings { Settings.dflt with step := 500 }
    ((twoImages.offer x).1.queue.map (·.body) = [.settings Settings.dflt, .rods [], x])
      ∧ (({ twoImages with queue := [⟨.settings Settings.dflt, 0⟩] } : Store).offer x).1.queue.length = 2
      ∧ ((blockAhead (some 1)).takeHead.rst.queue, (blockAhead (some 1)).takeHead.rst.ctl) = ([], .ready) := by decide +kernel

theorem witness_DeclaringTheString :
    CanTake rig .a .setBha ∧ CanTake rig .a .declareString ∧ rig.str.depth = .reliable
      ∧ rig.str.length - rig.height ≤ maxDepth ∧ rig.str.length - rig.height ≤ rig.str.hole
      ∧ above.str.depth = .reliable ∧ above.str.bha ≠ none ∧ above.str.hole < above.str.length - above.height
      ∧ above.jmu.state ≠ .noJob :=
  ⟨canTake_of (by decide), canTake_of (by decide), rfl, by decide, by decide, rfl, by decide, by decide, by decide⟩

theorem witness_PartingTheString :
    CanTake (adding .addPicked) .a .declareParted ∧ (adding .addPicked).cxu.state ≠ .free
      ∧ CanTake ready .a .declareParted ∧ ready.cxu.state = .free ∧ ready.str.bha = none
      ∧ CanTake rig .a .declareParted ∧ rig.cxu.state = .free ∧ rig.str.bha = some ⟨9500, 12668, 3⟩
      ∧ rig.str.list.length < 2 ∧ 1 ≤ rig.str.list.length ∧ rig.jmu.state ≠ .opened
      ∧ CanTake drilling .a .declareParted ∧ drilling.jmu.state = .opened ∧ drilling.str.bha = some ⟨9500, 12668, 3⟩ :=
  ⟨canTake_of (by decide), by decide, canTake_of (by decide), rfl, rfl, canTake_of (by decide), rfl, rfl, by decide,
    by decide, by decide, canTake_of (by decide), rfl, rfl⟩

/-- Parting off the BHA and one rod of 6,000 mm at 15,500 mm leaves the bit at 0 and counts both (R19, R120). -/
theorem test_parting :
    let t := run (.declareParted .a 0 1) drilling
    (t.str.d, t.str.hole, t.jmu.lostBha, t.jmu.lostRods[0]) = (0, 15500, 1, 1) := by decide +kernel

theorem witness_DepthLimitsKeepBlockHeight : CanTake rig .a .setDepthLimits := canTake_of (by decide)

theorem witness_SettingBlockHeight :
    CanTake rig .a .setBlockHeight ∧ rig.str.length - min 30001 30000 ≤ maxDepth
      ∧ rig.str.length - min 30001 30000 ≤ rig.str.hole ∧ CanTake above .a .setBlockHeight ∧ above.str.bha ≠ none
      ∧ above.str.length - min 0 30000 ≤ maxDepth ∧ above.str.hole < above.str.length - min 0 30000 :=
  ⟨canTake_of (by decide), by decide, by decide, canTake_of (by decide), by decide, by decide, by decide⟩

/-- Set Block Height advances the hole with the slips set, and the advance is reported (R15, R115, R97). -/
theorem test_height_drills :
    let t := run (.setBlockHeight .a 0 0) above
    (t.str.hole, t.jmu.lastAdvance, t.jmu.pendingMm, t.slu.openIv.map (·.drilled))
      = (15500, some above.tick, 2900, some 900) := by decide +kernel

theorem witness_Picking : CanTake rig .b .pick := canTake_of (by decide)

/-- Pick takes rod 2 into handling; a thread that does not match is refused (R24). -/
theorem test_pick :
    (run (.pick .b 0 2) rig).cxu.handling = some 2 ∧ sent (run (.pick .b 0 1) rig) .b = some .notInRack := by decide +kernel

theorem witness_StabAndMadeUp :
    CanTake rig .b .stab ∧ CanTake rig .b .madeUp ∧ rig.cxu.state ≠ .addStabbed
      ∧ CanTake (adding .addStabbed) .b .madeUp ∧ (adding .addStabbed).cxu.state = .addStabbed
      ∧ (adding .addStabbed).cxu.handling = some 2
      ∧ (adding .addStabbed).str.rods.find? (fun r => r.id == 2) = some ⟨2, 1, 6000, 4, .handling⟩
      ∧ classEntry (adding .addStabbed).str.classes 1 = some classOne ∧ (adding .addStabbed).str.slips = .set :=
  ⟨canTake_of (by decide), canTake_of (by decide), by decide, canTake_of (by decide), rfl, rfl, by decide, by decide, rfl⟩

/-- At the minimum torque exactly the rod is made up; one below it is not (R26). -/
theorem test_made_up_at_the_minimum :
    (run (.madeUp .b 0 3000) (adding .addStabbed)).str.list = [1, 2]
      ∧ sent (run (.madeUp .b 0 2999) (adding .addStabbed)) .b = some .torqueLow := by decide +kernel

theorem witness_AbortingAnAdd :
    CanTake rig .b .abortAdd ∧ rig.cxu.state ≠ .addPicked ∧ rig.cxu.state ≠ .addStabbed
      ∧ CanTake (adding .addPicked) .a .abortAdd ∧ (adding .addPicked).cxu.state = .addPicked
      ∧ (adding .addPicked).cxu.handling = some 2 :=
  ⟨canTake_of (by decide), by decide, by decide, canTake_of (by decide), rfl, rfl⟩

theorem witness_BreakAndBroken :
    CanTake rig .b .breakOut ∧ CanTake rig .b .broken ∧ rig.cxu.state ≠ .breakRequested
      ∧ CanTake (rigIn .breakRequested none) .b .broken ∧ (rigIn .breakRequested none).cxu.state = .breakRequested
      ∧ (rigIn .breakRequested none).str.slips = .set ∧ (rigIn .breakRequested none).str.list = [] ++ [1]
      ∧ ((rigIn .breakRequested none).modStr fun u => { u with slips := .released }).str.slips = .released :=
  ⟨canTake_of (by decide), canTake_of (by decide), by decide, canTake_of (by decide), rfl, rfl, rfl, rfl⟩

theorem witness_RackedAndLaidDown :
    CanTake rig .b .racked ∧ CanTake rig .b .laidDown ∧ rig.cxu.state ≠ .breakOpen
      ∧ CanTake (broken .breakOpen) .b .racked ∧ CanTake (broken .breakOpen) .b .laidDown
      ∧ (broken .breakOpen).cxu.state = .breakOpen ∧ (broken .breakOpen).cxu.handling = some 1 :=
  ⟨canTake_of (by decide), canTake_of (by decide), by decide, canTake_of (by decide), canTake_of (by decide), rfl, rfl⟩

/-- The permit is withdrawn at Break and asserted again at Racked (R28, R30, R32). -/
theorem test_permit :
    ((run (.breakOut .b 0) rig).rawValue .pumpPermit, (run (.racked .b 0) (broken .breakOpen)).rawValue .pumpPermit) =
      (false, true) := by decide +kernel

theorem witness_ResolvingAFault :
    CanTake rig .a .acknowledgeFault ∧ rig.rawValue .connectionFault = false
      ∧ CanTake (adding (.fault ⟨.slipsLost, .addPicked⟩)) .a .acknowledgeFault
      ∧ (adding (.fault ⟨.slipsLost, .addPicked⟩)).cxu.state = .fault ⟨.slipsLost, .addPicked⟩
      ∧ HandlingOk (adding (.fault ⟨.slipsLost, .addPicked⟩))
      ∧ (adding (.fault ⟨.slipsLost, .addPicked⟩)).cxu.handling = some 2
      ∧ HandlingOk (rigIn (.fault ⟨.slipsLost, .breakRequested⟩) none)
      ∧ HandlingOk (broken (.fault ⟨.pumpedOnBreak .one, .breakOpen⟩)) :=
  ⟨canTake_of (by decide), rfl, canTake_of (by decide), rfl, ⟨rfl, by decide⟩, rfl, ⟨rfl, by decide⟩, ⟨rfl, by decide⟩⟩

/-- KEEP appends the rod; RESTORE belongs to a requested break alone (R36, R37). -/
theorem test_resolutions :
    (run (.acknowledgeFault .a 0 0) (adding (.fault ⟨.slipsLost, .addStabbed⟩))).str.list = [1, 2]
      ∧ sent (run (.acknowledgeFault .a 0 3) (adding (.fault ⟨.slipsLost, .addPicked⟩))) .a = some .badValue := by
  decide +kernel

theorem witness_WhatFaultsAConnection :
    (broken (.fault ⟨.pumpedOnBreak .one, .breakOpen⟩)).cxu.state = .fault ⟨.pumpedOnBreak .one, .breakOpen⟩
      ∧ Origin.addStabbed ≠ .breakOpen ∧ (adding .addStabbed).cxu.state = .addStabbed
      ∧ (rigIn .breakRequested none).cxu.state = .breakRequested ∧ (broken .breakOpen).cxu.state = .breakOpen :=
  ⟨rfl, by decide, rfl, rfl, rfl⟩

/-! ### Witnesses: reads -/

/-- Link A holds the latch of a DEPTH_JUMP of −501 mm at job second 5. -/
def latched : State := ready.modLink .a fun l => l.putLatch .depthJump (some ⟨.jump (-501), 5⟩)

theorem witness_ImmediateReads_latches :
    ∀ c x, (latched.link .a).latch c = some x → x.content.bytes.length = c.contentWidth := by
  intro c x h
  have e : (latched.link .a).latch c = if c = .depthJump then some ⟨.jump (-501), 5⟩ else none := by cases c <;> rfl
  rw [e] at h
  split at h
  · subst c; cases h; decide
  · cases h

/-- The entry of condition 16 in Link Status: set, −501 in four bytes, its job seconds, masked 0 (R177, R186). -/
theorem test_link_status :
    ((linkStatusBytes .a latched).drop 129).take 10 = [1, 255, 255, 254, 11, 0, 0, 0, 5, 0]
      ∧ (linkStatusBytes .a latched).length = 199 := by decide +kernel

theorem witness_ImmediateReads :
    CanTake rig .a .readStringList ∧ CanTake rig .a .readRod ∧ CanTake rig .a .readRodTable
      ∧ CanTake rig .a .readCuttingsQueue ∧ rig.str.rods.find? (fun r => r.id == 4) = some ⟨4, 1, 6000, 9, .lost⟩
      ∧ (1 ≤ 65534 ∧ 65534 ≤ 65534 ∧ ∀ r ∈ rig.str.rods, r.id ≠ 65534) ∧ 300 < 301 ∧ 65534 < 65535 ∧ 32 < 33
      ∧ [1, 2, 255].length ≤ 3 ∧ (7 < 8 ∧ drilling.lgu.parcels[3 - 1 + 0]?.isSome = true)
      ∧ drilling.lgu.parcels.length ≤ 32 :=
  ⟨canTake_of (by decide), canTake_of (by decide), canTake_of (by decide), canTake_of (by decide), by decide, by decide,
    by decide, by decide, by decide, by decide, by decide, by decide⟩

/-- A position, an id or a start past its range is BAD_VALUE, a rod that is not registered NOT_FOUND (R20, R93). -/
theorem test_refused_reads :
    (sent (run (.readStringList .a 0 301) rig) .a, sent (run (.readRod .a 0 65535) rig) .a,
      sent (run (.readRod .a 0 65534) rig) .a, sent (run (.readRodTable .a 0 0) rig) .a,
      sent (run (.readCuttingsQueue .a 0 33) rig) .a) =
      (some .badValue, some .badValue, some .notFound, some .badValue, some .badValue) := by decide +kernel

theorem witness_StoreReads :
    CanTake rig .a .readStrata ∧ rig.rst.ctl = .ready
      ∧ CanTake (storing .failed [] rig) .a .readRodsImage ∧ (storing .failed [] rig).rst.ctl = .failed
      ∧ CanTake (storing .writing [⟨.strata (recordOf 0), 0⟩] rig) .d .readJob
      ∧ (storing .writing [⟨.strata (recordOf 0), 0⟩] rig).rst.ctl = .writing
      ∧ CanTake (erasing 7) .a .readStrata ∧ (erasing 7).rst.ctl = .erasing { erase6 with suspensions := 7 }
      ∧ CanTake (suspended [waiting]) .b .readStrataLatest
      ∧ (suspended [waiting]).rst.ctl = .suspended { erase6 with suspensions := 1 }
      ∧ CanTake rig .a .readStrataLatest ∧ CanTake rig .a .readJob ∧ CanTake rig .a .readSettingsImage
      ∧ CanTake rig .a .readRodsImage ∧ (8191 < 8192 ∧ 65535 ≤ 65535 ∧ 63 < 64 ∧ 320 ≤ 320)
      ∧ (8192 ≤ 8192 ∧ 65535 < 65536 ∧ 64 ≤ 64 ∧ 9 < 10 ∧ 320 < 321)
      ∧ RingsOk rig ∧ rig.rst.strataPos < 8192 :=
  ⟨canTake_of (by decide), rfl, canTake_of (by decide), rfl, canTake_of (by decide), rfl, canTake_of (by decide), rfl,
    canTake_of (by decide), rfl, canTake_of (by decide), canTake_of (by decide), canTake_of (by decide),
    canTake_of (by decide), by decide, by decide, ⟨rfl, rfl⟩, by decide⟩

/-- A blank slot reads as ERASED; while a write is on, the read waits (R149, R151). -/
theorem test_store_read :
    sent (run (.readStrata .a 0 8191) rig) .a = some .erased
      ∧ sent (run (.readStrata .a 0 8191) (storing .writing [⟨.strata (recordOf 0), 0⟩] rig)) .a = none := by decide +kernel

/-- The step of a state on an empty queue. -/
def idled (s : State) : State :=
  match step s with
  | .next t => t
  | _ => s

/-- Chapter 9's worked sequence: a read suspends the erase, a second read joins the suspension, both are served in it and the
erase resumes with one suspension made. After 8 a read waits. -/
theorem test_one_suspension_for_two_reads :
    let s := run (.readStrataLatest .a 0 417) (run (.readStrata .d 0 1600) (erasing 0))
    let t := idled (idled s)
    (s.rst.readList.length, sent s .d, sent t .d, sent t .a, t.rst.ctl) =
        (2, none, some .erased, some .notFound, .erasing { erase6 with suspensions := 1 })
      ∧ (run (.readStrata .d 0 1600) (erasing 8)).rst.ctl = .erasing { erase6 with suspensions := 8 } := by decide +kernel

/-- The item count of a rods image comes after the items (R152, R187). -/
theorem test_rods_part : (rodsPartBytes [⟨7, 1, 6000, 2, none⟩] 1).drop 241 = [0, 1] := by
  decide +kernel

/-! ### Witnesses: circulation -/

theorem witness_SettingPumpsAndLimits : CanTake rig .c .setPump ∧ CanTake rig .c .setCirculationLimits :=
  ⟨canTake_of (by decide), canTake_of (by decide)⟩

/-- A value outside its range is brought in and answered CLAMPED (R43). -/
theorem test_set_pump_clamps :
    let t := run (.setPump .c 0 1 8470 1001 6) rig
    (t.ccu.p1.const, sent t .c) = (⟨some 8470, 1000, 6⟩, some .clamped) := by decide +kernel

/-- A pump within 8,046 mL of the top of its volume. -/
def nearTop : Pump := { Pump.cold ⟨some 8470, 950, 6⟩ with vol := 1099511627775 - 8046, rem := 499 }

theorem witness_StrokeConservesVolume :
    nearTop.vol + (8470 * 950 + nearTop.rem) / 1000 ≤ maxVolume
      ∧ nearTop.vol ≤ maxVolume ∧ maxVolume < nearTop.vol + (8470 * 950 + ({ nearTop with rem := 500 } : Pump).rem) / 1000
      ∧ PumpId.two ≠ .one
      ∧ drilling.ccu.pw + ((drilling.ccu.pump .one).afterStroke.vol - (drilling.ccu.pump .one).vol)
          < drilling.ccu.limits.window
      ∧ (drilling.modCcu fun u => { u with pw := 193116 }).ccu.limits.window
          ≤ 193116 + ((drilling.ccu.pump .one).afterStroke.vol - (drilling.ccu.pump .one).vol) := by decide +kernel

/-- The drilling rig with a window of 201,162 mL pumped and 193,500 mL returned. -/
def windowFull : State := drilling.modCcu fun u => { u with state := .starting, pw := 201162, rw := 193500 }

theorem witness_WindowCompletes :
    drilling.power = .on ∧ drilling.ccu.pw < drilling.ccu.windowInForce ∧ windowFull.power = .on
      ∧ windowFull.ccu.windowInForce ≤ windowFull.ccu.pw := by decide

/-- Window 1 of the loss zone leaves STARTING for CIRCULATING and loses 7,662 mL (chapter 3). -/
theorem test_window_one :
    let t := run .windowCompletion windowFull
    (t.ccu.state, t.ccu.lastFrac, t.ccu.lost, t.ccu.pw) = (.circulating, some 961, 7662, 0) := by decide +kernel

/-- A smaller W set below P_w completes no window by itself; the next accepted stroke completes it (R49, R50). -/
theorem test_new_window_size :
    let s := run (.setCirculationLimits .c 0 1100 900 100 50000 500) (drilling.modCcu fun u => { u with pw := 60000, rw := 60000 })
    (s.ccu.limits.window, s.ccu.windowInForce, (run .windowCompletion s).ccu.pw, (s.stroke .one).ccu.windowInForce,
      (s.stroke .one).ccu.pw) = (50000, 200000, 60000, 50000, 0) := by decide +kernel

/-- The drilling rig with pump 1 at its deadline and the given window. -/
def atDeadline (pw rw : Nat) (other : Bool) : State :=
  drilling.modCcu fun u =>
    { u with lastCand := some .circulating, pw, rw, p1 := { u.p1 with countdown := 0 }, p2 := { u.p2 with running := other } }

theorem witness_PumpTimeoutStopsCirculation :
    ready.power = .on ∧ ¬((ready.ccu.pump .one).running = true ∧ (ready.ccu.pump .one).countdown = 0)
      ∧ ((atDeadline 0 0 true).ccu.pump .one).running = true ∧ ((atDeadline 0 0 true).ccu.pump .one).countdown = 0
      ∧ ((atDeadline 0 0 true).ccu.putPump .one
          { (atDeadline 0 0 true).ccu.pump .one with running := false }).anyRunning = true
      ∧ ((atDeadline 49999 0 false).ccu.putPump .one
          { (atDeadline 49999 0 false).ccu.pump .one with running := false }).anyRunning = false
      ∧ (atDeadline 49999 0 false).ccu.pw * 4 < (atDeadline 49999 0 false).ccu.windowInForce
      ∧ (atDeadline 50000 0 false).ccu.windowInForce ≤ (atDeadline 50000 0 false).ccu.pw * 4 := by decide

/-- Chapter 3's stop in a half window: F 882, 9,465 mL lost, IDLE. -/
theorem test_half_window :
    let t := run (.pumpTimeout .one) (atDeadline 80465 71000 false)
    (t.ccu.state, t.ccu.lastFrac, t.ccu.lost, t.rawValue .circLoss) = (.idle, some 882, 9465, false) := by decide +kernel

/-- The drilling rig a second before its pump stops, with a window that nothing returned to. -/
def atLastSecond (pw : Nat) : State :=
  drilling.modCcu fun u => { u with pw, rw := 0, p1 := { u.p1 with countdown := 1 } }

/-- At the last pump's stop a quarter of the window is judged: all of it lost, the open interval saw TOTAL_LOSS (R54, R99). -/
theorem test_window_at_the_stop :
    let t (pw : Nat) : State := run .timeBaseTick (atLastSecond pw)
    ((t 50000).ccu.state, (t 50000).ccu.lastFrac, (t 50000).ccu.lost, (t 50000).slu.openIv.map (·.worst)) =
        (.idle, some 0, 50000, some .totalLoss)
      ∧ ((t 49999).ccu.state, (t 49999).ccu.lastFrac, (t 49999).ccu.lost) = (.idle, none, 0) := by decide +kernel

/-- The premise of `TickResult` on the activity, for `a` in `s`. -/
def Classified (s : State) (a : Activity) : Prop :=
  let since (at_ : Option Nat) (hold : Nat) : Prop := ∃ t, at_ = some t ∧ s.tick + 1 - t ≤ hold
  match s.jmu.downtime with
  | some x => (x.kind = .rig → a = .downtimeRig) ∧ (x.kind = .client → a = .downtimeClient)
  | none =>
    if s.ccu.state = .totalLoss ∨ s.ccu.state = .gain then a = .lossControl
    else (since s.jmu.lastAdvance s.jmu.drillHold → a = .drilling)
      ∧ (¬ since s.jmu.lastAdvance s.jmu.drillHold →
          ((s.cxu.state ≠ .free ∨ since (s.cxu.last.map (·.time)) s.jmu.tripHold) → a = .tripping)
          ∧ (¬ (s.cxu.state ≠ .free ∨ since (s.cxu.last.map (·.time)) s.jmu.tripHold) →
              a = if s.ccu.state = .idle then .standby else .circulating))

/-- The premises of `TickResult` right after the start-up load, where the second is STANDBY and no job counts it, and on a rig
that drilled a moment ago, where it is DRILLING and counted. -/
theorem witness_TickResult :
    (ready.power = .on ∧ ready.tick < 4294967295 ∧ Classified ready .standby
        ∧ ¬(ready.jmu.state = .opened ∧ ready.jmu.clock < 4294967295))
      ∧ (let s := drilling.modJmu fun u => { u with lastAdvance := some 0 }
         s.power = .on ∧ s.tick < 4294967295 ∧ Classified s .drilling
          ∧ (s.jmu.state = .opened ∧ s.jmu.clock < 4294967295))
      ∧ (let runs (s : State) (p : PumpId) : Bool := (s.ccu.pump p).running && (s.ccu.pump p).countdown != 1
         let stops (s : State) : Bool := s.ccu.anyRunning && !runs s .one && !runs s .two
         stops drilling = false ∧ (stops (atLastSecond 49999) = true ∧ ¬ (atLastSecond 49999).ccu.windowInForce ≤ 49999 * 4)
          ∧ (stops (atLastSecond 50000) = true ∧ (atLastSecond 50000).ccu.windowInForce ≤ 50000 * 4)) := by
  refine ⟨⟨rfl, by decide, ?_, by decide⟩, ⟨rfl, by decide, ?_, by decide⟩, by decide⟩
  · simp [Classified, ready, State.reset]
  · simp [Classified, drilling, rig, ready, State.reset, State.modJmu]

/-- A drilling second within the hold of 120 s goes to the first meter, one after it to circulating (R110 to R112). -/
theorem test_tick_activities :
    let s (t : Nat) : State := { drilling with tick := t, jmu := { drilling.jmu with lastAdvance := some 0 } }
    ((run .timeBaseTick (s 119)).jmu.lastActivity, (run .timeBaseTick (s 120)).jmu.lastActivity,
      (run .timeBaseTick (s 119)).jmu.clock, (run .timeBaseTick (s 119)).jmu.meters[0]) =
      (some .drilling, some .circulating, 101, 101) := by decide +kernel

/-! ### Witnesses: lag and cuttings -/

theorem drilling_queueOk : QueueOk drilling := by
  refine ⟨by decide, by decide, by decide, ?_⟩
  intro iv h p hp
  cases h
  simp only [drilling, List.mem_cons, List.not_mem_nil, or_false] at hp
  rcases hp with rfl | rfl | rfl <;> decide

/-- A rise of the lift counter waits to be examined. -/
def risen (s : State) : State := s.modLgu fun u => { u with rise := true }

theorem witness_DueDetectionResult :
    drilling.power = .on ∧ drilling.lgu.rise = false ∧ (risen drilling).lgu.rise = true ∧ QueueOk (risen drilling) :=
  ⟨rfl, rfl, rfl, drilling_queueOk⟩

/-- The lift counter one short of interval 4's target, and at it (R83). -/
theorem test_due_at_the_target :
    let s (v : Nat) : State := risen (drilling.modCcu fun u => { u with lift := v })
    ((run .dueDetection (s 7401999)).lgu.parcels.map (·.status), (run .dueDetection (s 7402000)).lgu.parcels.map (·.status),
      (run .dueDetection (s 7402000)).lgu.parcels.map (·.windowEnd)) =
      ([.finalWaiting, .due, .inFlight], [.finalWaiting, .due, .due], [none, some 7336713, some 7552000]) := by
  decide +kernel

theorem witness_WindowExpiryResult :
    drilling.power = .on ∧ drilling.lgu.rise = false ∧ (risen drilling).lgu.rise = true ∧ QueueOk (risen drilling)
      ∧ (∃ p ∈ (risen (drilling.modCcu fun u => { u with lift := 7336713 })).lgu.parcels, p.status = .due
          ∧ (p.windowEnd.any fun w => decide (w ≤ 7336713)) = true)
      ∧ (∃ p ∈ drilling.lgu.parcels, p.status ≠ .finalWaiting
          ∧ ¬(p.status = .due ∧ (p.windowEnd.any fun w => decide (w ≤ drilling.ccu.lift)) = true))
      ∧ (drilling.ccu.state ≠ .idle ∧ drilling.ccu.state ≠ .totalLoss ∧ 0 < 8046) ∧ ready.ccu.state = .idle :=
  ⟨rfl, rfl, rfl, drilling_queueOk, by decide, by decide, by decide, rfl⟩

/-- A parcel at or below the counter is IN_FLIGHT until a rise (R82, R84), and no window expires without one (R85). -/
theorem test_no_rise :
    let s : State := drilling.modCcu fun u => { u with lift := 8000000 }
    (run .dueDetection s).lgu.parcels = s.lgu.parcels ∧ (run .windowExpiry s).lgu.parcels = s.lgu.parcels
      ∧ ((s.lift 1).lgu.parcels.map (·.status)) = [.finalWaiting, .due] := by decide +kernel

/-- Interval 3 expires at its window end; its record goes to the store (R84, R85). -/
theorem test_window_end :
    let s (v : Nat) : State := risen (drilling.modCcu fun u => { u with lift := v })
    ((run .windowExpiry (s 7336712)).lgu.parcels.length, (run .windowExpiry (s 7336713)).lgu.parcels.length,
      (run .windowExpiry (s 7336713)).rst.queue.length) = (3, 2, 1) := by decide +kernel

/-- A link with every condition unmasked. -/
def listening : LinkRec := { LinkRec.cold .driller .driller with masks := Vector.replicate 23 false }

/-- The drilling rig with the bit past the hole on released slips: `h` is where it stands. -/
def deeper (h : Nat) : State := drilling.modStr fun u => { u with slips := .released, d := h }

/-- Thirty-two parcels. -/
def manyParcels : List Parcel := (List.range 32).map fun n => ⟨0, 0, .inFlight, none, recordOf n⟩

/-- Two hole sections, the second to 12,000 mm. -/
def twoSections : List Section := [⟨5000, 20000⟩, ⟨12000, 10000⟩]

theorem witness_IntervalsAndParcels :
    ¬(drilling.str.slips = .released ∧ drilling.str.bha ≠ none ∧ drilling.str.depth = .reliable
        ∧ drilling.str.hole < drilling.str.d)
      ∧ ((deeper 15501).str.slips = .released ∧ (deeper 15501).str.bha ≠ none ∧ (deeper 15501).str.depth = .reliable
        ∧ (deeper 15501).str.hole < (deeper 15501).str.d)
      ∧ ready.jmu.state ≠ .opened ∧ drilling.jmu.state = .opened
      ∧ drilling.slu.openIv = some
          { number := 5, top := 15000, bottom := 16000, drilled := 500, seconds := 30, worst := .circulating
            strike := none, notes := [] }
      ∧ 15999 < 16000 ∧ 16000 ≤ 16000 ∧ 0 < drilling.slu.step ∧ (16999 - 16000) / drilling.slu.step = 0
      ∧ (drilling.modCcu fun u => { u with state := .totalLoss }).ccu.state = .totalLoss
      ∧ (drilling.ccu.state ≠ .totalLoss ∧ drilling.lgu.parcels.length < 32)
      ∧ 32 ≤ (drilling.modLgu fun u => { u with parcels := manyParcels }).lgu.parcels.length
      ∧ twoSections.getLast? = some ⟨12000, 10000⟩ ∧ strictlyRising (twoSections.map (·.bottom)) = true
      ∧ ∀ x ∈ twoSections, 0 < x.bottom := by decide

/-- 500 mm more reach the open interval's bottom: it closes, its parcel rises and the next opens at 16,000 mm; 499 mm do not.
1,500 mm close two (R95, R97, R98, R82). -/
theorem test_intervals_close :
    let t (h : Nat) : State := (deeper h).holeRule
    [15999, 16000, 17000].map (fun h => ((t h).slu.openIv.map fun v => (v.number, v.top, v.drilled), (t h).slu.closed,
        (t h).lgu.parcels.length, (t h).jmu.pendingMm)) =
      [(some (5, 15000, 999), 5, 3, 2999), (some (6, 16000, 0), 6, 4, 3000), (some (7, 17000, 0), 7, 5, 4000)] := by
  decide +kernel

theorem witness_FinalRecordPath :
    drilling.rst.ctl ≠ .failed ∧ drilling.rst.queue.length < 12
      ∧ 12 ≤ (storing .writing fullQueue drilling).rst.queue.length
      ∧ (storing .failed [] drilling).rst.ctl = .failed
      ∧ (drilling.slu.overflow.length < 4 ∧ ¬([recordOf 0, recordOf 1, recordOf 2, recordOf 3].length < 4))
      ∧ ((drilling.lgu.parcels.filter fun p => p.status == .finalWaiting).map (·.record)).take (12 - 0) ≠ []
      ∧ ((drilling.lgu.parcels.filter fun p => p.status == .finalWaiting).map (·.record)).take (12 - 12) = []
      ∧ ready.lgu.parcels.filter (fun p => p.status == .finalWaiting) = []
      ∧ (listening.latchWhileMasked = false ∧ listening.masked .commitDropped = false) := by decide +kernel

/-- A CLOSING job that holds its record; `job` is the record's job. -/
def heldRecord (job : Nat) : State :=
  { drilling with
    jmu := { drilling.jmu with
      state := .closing .held
      record := some { drilling.jobRecord (drilling.compose false) ⟨0, 0, 0, 0, 0, 0, 0⟩ with ident := ⟨job, 9, 10000⟩ } } }

theorem witness_FinalRecordPath_release :
    drilling.jmu.state ≠ .closing .held ∧ (heldRecord 417).jmu.state = .closing .held
      ∧ ((heldRecord 417).jmu.record.map (·.ident.number)) = some 417
      ∧ (∃ p ∈ (heldRecord 417).lgu.parcels, p.record.job = 417)
      ∧ ((∀ p ∈ (heldRecord 5).lgu.parcels, p.record.job ≠ 5) ∧ (heldRecord 5).slu.overflow = []
        ∧ (heldRecord 5).rst.queue = [] ∧ (heldRecord 5).rst.ctl ≠ .failed)
      ∧ (storing .failed [] (heldRecord 5)).rst.ctl = .failed
      ∧ 12 ≤ (storing .writing (List.replicate 12 ⟨.rods [], 0⟩) (heldRecord 5)).rst.queue.length := by decide +kernel

/-- The record is offered once nothing of its job waits (R136). -/
theorem test_release_check :
    ((heldRecord 417).releaseCheck.jmu.state, (heldRecord 5).releaseCheck.jmu.state,
      (storing .failed [] (heldRecord 5)).releaseCheck.jmu.state) = (.closing .held, .closing .offered, .noJob) := by
  decide +kernel

/-- At a departure with one place free the overflow's record goes first, the waiting parcel stays (R90). -/
theorem test_reoffer_order :
    let s := (storing .writing (fullQueue.take 11) drilling).modSlu fun u => { u with overflow := [recordOf 1] }
    let t := reoffer s.waiting s
    (t.rst.queue.length, t.slu.overflow, t.lgu.parcels.length) = (12, [], 3)
      ∧ (t.rst.queue.map (·.body))[11]? = some (.strata (recordOf 1)) := by decide +kernel

theorem witness_BandsSplitTheInterval :
    (#v[0, 60000, 120000, 200000, 350000, 600000] : Vector Nat 6)[0] = 0
      ∧ strictlyRising (#v[0, 60000, 120000, 200000, 350000, 600000] : Vector Nat 6).toList = true ∧ 119500 ≤ 120250
      ∧ RockClass.soft ≠ .hard
      ∧ (#v[0, 60000, 120000, 200000, 350000, 600000] : Vector Nat 6)[(1 : Fin 6)] ≤ 60000
      ∧ ∀ next : Fin 6, next.val = (1 : Fin 6).val + 1 →
          120000 ≤ (#v[0, 60000, 120000, 200000, 350000, 600000] : Vector Nat 6)[next] := by decide

theorem witness_SettingLagAndLog :
    CanTake ready .a .setHoleSections ∧ CanTake ready .a .setSampleWindow ∧ CanTake ready .a .setIntervalStep
      ∧ CanTake ready .a .setLithologyTable ∧ 63 < (List.replicate 64 (1, 0)).length
      ∧ (∃ x ∈ [(64, 0)], x.1 < 1 ∨ 63 < x.1 ∨ 2 < x.2) ∧ ¬([(1, 0), (1, 1)].map (·.1)).Nodup
      ∧ ([(1, 0), (63, 2)].length ≤ 63 ∧ (∀ x ∈ [(1, 0), (63, 2)], 1 ≤ x.1 ∧ x.1 ≤ 63 ∧ x.2 ≤ 2)
        ∧ ([(1, 0), (63, 2)].map (·.1)).Nodup)
      ∧ (∃ p ∈ drilling.lgu.parcels, p.status = .due) ∧ CanTake drilling .a .setLithologyTable
      ∧ ∀ p ∈ ready.lgu.parcels, p.status ≠ .due :=
  ⟨canTake_of (by decide), canTake_of (by decide), canTake_of (by decide), canTake_of (by decide), by decide, by decide,
    by decide, by decide, by decide, canTake_of (by decide), by decide⟩

/-- A step is brought in and rounded down to a multiple of 50 mm (R96). -/
theorem test_interval_step :
    [249, 1049, 5001].map (fun n => (run (.setIntervalStep .a 0 n) ready).slu.step) = [250, 1000, 5000] := by decide +kernel

/-- Interval 3's record carries a note already. -/
def noted : State :=
  drilling.modLgu fun u => { u with
    parcels := u.parcels.map fun p => if p.record.interval = 3 then { p with record := { p.record with notes := [7] } } else p }

theorem witness_LoggingASample :
    CanTake drilling .a .logSample ∧ drilling.slu.lith.find? (fun e => e.code == 12) = some ⟨12, .hard⟩
      ∧ drilling.slu.lith.find? (fun e => e.code == 63) = none
      ∧ drilling.jmu.state ≠ .noJob ∧ drilling.slu.openIv.map (·.number) = some 5
      ∧ drilling.lgu.parcels.find? (fun p => p.record.interval == 1) = none
      ∧ (drilling.lgu.parcels.find? (fun p => p.record.interval == 2)).map (·.status) = some .finalWaiting
      ∧ (drilling.lgu.parcels.find? (fun p => p.record.interval == 3)).map (·.status) = some .due
      ∧ (drilling.lgu.parcels.find? (fun p => p.record.interval == 4)).map (·.status) = some .inFlight
      ∧ (noted.lgu.parcels.find? (fun p => p.record.interval == 3)).map (·.record.notes.length) = some 1 :=
  ⟨canTake_of (by decide), by decide +kernel⟩

/-- Every reply of Log Sample but its last check, and an accepted catch (R86). -/
theorem test_log_sample_replies :
    ([(3, 0), (3, 64), (3, 13), (6, 12), (5, 12), (1, 12), (2, 12), (4, 12), (3, 12)].map fun x =>
        sent (run (.logSample .a 0 x.1 x.2 (some 15) [255]) drilling) .a) =
      [some .badValue, some .badValue, some .badValue, some .notFound, some .notDue, some .tooLate, some .tooLate,
        some .notDue, some .ok]
      ∧ sent (run (.logSample .a 0 3 12 none [1, 2, 3]) noted) .a = some .tableFull := by decide +kernel

/-- Interval 3's 1,000 mm from 13,000 mm go to HARD in band 1 (R116). -/
theorem test_log_sample_credits :
    let t := run (.logSample .a 0 3 12 none []) drilling
    (t.jmu.pendingMm, t.jmu.cells[2], t.slu.lastClass) = (1500, 1000, some .hard) := by decide +kernel

/-! ### Witnesses: strata log, metering, jobs -/

/-- The drilling job in another state. -/
def jobIn (st : JobState) : State := drilling.modJmu fun u => { u with state := st }

theorem witness_WaterStrikesAndNotes :
    CanTake ready .a .reportWaterStrike ∧ ready.jmu.state = .noJob ∧ (jobIn (.closing .held)).jmu.state = .closing .held
      ∧ CanTake (jobIn (.closing .held)) .a .reportWaterStrike ∧ CanTake drilling .a .reportWaterStrike
      ∧ drilling.jmu.state = .opened ∧ drilling.str.hole < 15501 ∧ 9999 < drilling.slu.anchor.getD 0
      ∧ (15000 ≤ drilling.str.hole ∧ ∀ iv, drilling.slu.openIv = some iv → iv.top ≤ 15000 ∧ 15000 < iv.bottom)
      ∧ (∀ iv, drilling.slu.openIv = some iv → ¬(iv.top ≤ 14999 ∧ 14999 < iv.bottom))
      ∧ (∀ p ∈ drilling.lgu.parcels, p.status = .finalWaiting ∨ ¬(p.record.top ≤ 12999 ∧ 12999 < p.record.bottom))
      ∧ (∃ p ∈ drilling.lgu.parcels, p.status ≠ .finalWaiting ∧ p.record.top ≤ 14999 ∧ 14999 < p.record.bottom
          ∧ ∀ q ∈ drilling.lgu.parcels, q.record.top ≤ 14999 ∧ 14999 < q.record.bottom → q = p) := by
  refine ⟨canTake_of (by decide), rfl, rfl, canTake_of (by decide), canTake_of (by decide), rfl, by decide, by decide,
    ⟨by decide, ?_⟩, ?_, by decide, by decide⟩ <;> intro iv h <;> cases h <;> decide

/-- A strike in the open interval, in a rising parcel, in a final one and above the job (R101). -/
theorem test_water_strikes :
    ([15000, 14999, 12999, 9999, 15501].map fun d => sent (run (.reportWaterStrike .a 0 d) drilling) .a) =
      [some .ok, some .ok, some .tooLate, some .notFound, some .badValue] := by decide +kernel

theorem witness_WaterStrikesAndNotes_notes :
    CanTake drilling .a .addNote ∧ CanTake ready .a .addNote ∧ ready.jmu.state = .noJob ∧ drilling.jmu.state = .opened
      ∧ drilling.slu.openIv.map (·.number) = some 5 ∧ drilling.slu.openIv.map (·.notes.length) = some 0
      ∧ (drilling.modSlu fun u => { u with
          openIv := u.openIv.map fun v => { v with notes := [1, 2, 3] } }).slu.openIv.map (·.notes.length) = some 3
      ∧ drilling.lgu.parcels.find? (fun p => p.record.interval == 1) = none
      ∧ (drilling.lgu.parcels.find? (fun p => p.record.interval == 2)).map (·.status) = some .finalWaiting
      ∧ (noted.lgu.parcels.find? (fun p => p.record.interval == 3)).map (·.record.notes) = some [7]
      ∧ ((noted.modLgu fun u => { u with parcels := u.parcels.map fun p =>
            { p with record := { p.record with notes := [1, 2, 3] } } }).lgu.parcels.find?
          (fun p => p.record.interval == 3)).map (·.record.notes.length) = some 3 :=
  ⟨canTake_of (by decide), canTake_of (by decide), by decide +kernel⟩

/-- Notes on an undrilled interval, the open one, a final one and a rising one (R102). -/
theorem test_notes :
    ([6, 5, 2, 4].map fun n => sent (run (.addNote .a 0 n 255) drilling) .a) =
      [some .notFound, some .ok, some .tooLate, some .ok] := by decide +kernel

theorem witness_DowntimeAndMixReports :
    CanTake drilling .a .downtimeStart ∧ CanTake drilling .a .downtimeEnd ∧ CanTake drilling .c .mixReport
      ∧ drilling.jmu.state = .opened ∧ CanTake ready .c .mixReport ∧ ready.jmu.state ≠ .opened
      ∧ ¬([(9, 1)].length ≤ 8 ∧ ∀ e ∈ [(9, 1)], 1 ≤ e.1 ∧ e.1 ≤ 8)
      ∧ ([(8, 501), (8, 1)].length ≤ 8 ∧ ∀ e ∈ [(8, 501), (8, 1)], 1 ≤ e.1 ∧ e.1 ≤ 8)
      ∧ ∀ i : Fin 8, drilling.jmu.sacks[i] ≤ 4294967295 :=
  ⟨canTake_of (by decide), canTake_of (by decide), canTake_of (by decide), rfl, canTake_of (by decide), by decide,
    by decide, by decide, by decide⟩

/-- 500 sacks of code 8, a count brought in from 501, and one more; 42,000 L of mud (R118). -/
theorem test_mix_report :
    let t := run (.mixReport .c 0 42000 [(8, 501), (8, 1)]) drilling
    (t.jmu.sacks[7], t.jmu.mud, sent t .c) = (501, 42000000, some .clamped) := by decide +kernel

theorem witness_SettingTariffs :
    CanTake ready .d .setTariffs ∧ CanTake (jobIn (.closing .offered)) .d .setTariffs
      ∧ (jobIn (.closing .offered)).jmu.state = .closing .offered ∧ (∀ ph, ready.jmu.state ≠ .closing ph)
      ∧ (∃ b ∈ (#v[0, 1, 2, 3, 4, 1500001] : Vector Nat 6).toList, 1500000 < b)
      ∧ Tariff.dflt.bounds[0] = 0 ∧ (∀ b ∈ Tariff.dflt.bounds.toList, b ≤ 1500000)
      ∧ strictlyRising Tariff.dflt.bounds.toList = true :=
  ⟨canTake_of (by decide), canTake_of (by decide), rfl, (by intro ph h; cases h), by decide, rfl, by decide, by decide⟩

/-- A price above 1,000,000 is held there; a bound is not brought in (R126). -/
theorem test_tariff_limits :
    (run (.setTariffs .d 0 { Tariff.dflt with lostBha := 1000001 } 120 300) ready).jmu.tariff.lostBha = 1000000
      ∧ sent (run (.setTariffs .d 0 { Tariff.dflt with bounds := #v[0, 1, 2, 3, 4, 1500001] } 120 300) ready) .d
          = some .badValue := by decide +kernel

/-- 4,295 rods lost at the greatest price pass the top of an amount. -/
def costly : State := { ready with
  jmu := { ready.jmu with
    lostRods := #v[4295, 0, 0, 0], tariff := { Tariff.dflt with lostRod := #v[1000000, 0, 0, 0] } } }

theorem witness_StatementLinesAndReply :
    CanTake ready .d .statement ∧ (∃ l ∈ (costly.compose true).lines, l.sat = true)
      ∧ (∀ l ∈ (ready.compose true).lines, l.sat = false) ∧ ((ready.compose true).lines.map (·.amount)).sum < 4294967295
      ∧ drilling.jmu.ident = some ⟨417, 9, 10000⟩ :=
  ⟨canTake_of (by decide), by decide +kernel⟩

theorem witness_OpeningAJob : CanTake configured .d .jobOpen := canTake_of (by decide)

/-- A job opens at the bit and not above it (R132), and its interval 0 begins there (R107). -/
theorem test_job_open :
    sent (run (.jobOpen .d 0 417 9 15499) configured) .d = some .belowBit
      ∧ (run (.jobOpen .d 0 417 9 15500) configured).slu.openIv.map (fun v => (v.number, v.top, v.bottom))
          = some (0, 15500, 16500) := by decide +kernel

theorem drilling_settingsOk : SettingsOk drilling := ⟨by decide, by decide +kernel, rfl, rfl, rfl⟩

/-- The drilling job with its first 3,000 mm in the cells. -/
def balanced : State := { drilling with jmu := { drilling.jmu with cells := (Vector.replicate 24 0).set 3 3000 } }

/-- The hole at 15,500 mm is the start at 10,000 mm, 2,500 mm pending (500 in the open interval, 2,000 rising) and 3,000 mm in
the cells (R116). -/
theorem balanced_ok : BalanceOk balanced :=
  ⟨drilling_settingsOk, drilling_queueOk, fun _ => ⟨⟨417, 9, 10000⟩, rfl, by decide⟩,
    fun _ => ⟨_, rfl, by decide, by decide, by decide⟩, nofun⟩

/-- With the slot at the write position BLANK no head is blocked (R145). -/
theorem drilling_startOf (e : Entry) : drilling.rst.startOf e ≠ .blocked := by
  have h : drilling.rst.areas.strata.get drilling.rst.strataPos = none := by decide
  obtain ⟨b, n⟩ := e
  cases b <;> simp only [Store.startOf, h, Option.isNone_none, if_true] <;> repeat' first | split | simp

theorem witness_ClosingAJob :
    QueueOk drilling ∧ BalanceOk balanced ∧ drilling.rst.queue.length + 3 ≤ 12
      ∧ (storing .writing fullQueue drilling).rst.ctl ≠ .ready ∧ 12 ≤ (storing .writing fullQueue drilling).rst.queue.length
      ∧ (∀ e, drilling.rst.startOf e ≠ .blocked) :=
  ⟨drilling_queueOk, balanced_ok, by decide, by decide, by decide, drilling_startOf⟩

theorem witness_ClosingAJob_states :
    CanTake ready .d .jobClose ∧ ready.jmu.state = .noJob ∧ CanTake (jobIn (.closing .held)) .d .jobClose
      ∧ (jobIn (.closing .held)).jmu.state = .closing .held ∧ CanTake drilling .d .jobClose
      ∧ drilling.jmu.state = .opened ∧ drilling.slu.openIv.isSome = true ∧ drilling.rst.ctl ≠ .failed
      ∧ (storing .failed [] (drilling.modLgu fun u => { u with parcels := [] })).rst.ctl = .failed
      ∧ (storing .failed [] drilling).rst.queue = [] ∧ drilling.slu.overflow = []
      ∧ ∀ p ∈ (drilling.modLgu fun u => { u with parcels := [] }).lgu.parcels, p.status ≠ .finalWaiting :=
  ⟨canTake_of (by decide), rfl, canTake_of (by decide), rfl, canTake_of (by decide), rfl, rfl, by decide, rfl, rfl, rfl,
    by decide⟩

/-- At the close the waiting, the open and the rising intervals join the commit queue, and pending stands at 0 (R134). -/
theorem test_job_close :
    let t := run (.jobClose .d 0) drilling
    (t.slu.openIv, t.slu.closed, t.lgu.parcels.map (·.status), t.jmu.pendingMm) =
      (none, 6, [.finalWaiting], 0) := by decide +kernel

/-! ### Witnesses: the record store -/

/-- A commit queue entry with the record of interval 5. -/
def entry5 (failures : Nat) : Entry := ⟨.strata (recordOf 5), failures⟩

/-- A job record as it is composed at the close of an empty job. -/
def someJob : JobRecord := drilling.jobRecord (drilling.compose false) ⟨0, 0, 0, 0, 0, 0, 0⟩

theorem witness_ErasesAndWritesComplete :
    rig.power = .on ∧ (erasing 0).rst.ctl = .erasing erase6
      ∧ (suspended [waiting]).rst.ctl = .suspended { erase6 with suspensions := 1 }
      ∧ (∀ e, rig.rst.ctl ≠ .erasing e ∧ rig.rst.ctl ≠ .suspended e) ∧ rig.rst.ctl ≠ .writing
      ∧ rig.rst.readList = [] ∧ (suspended [waiting]).rst.readList = waiting :: []
      ∧ (storing .writing [entry5 1, entry5 0] rig).rst.ctl = .writing
      ∧ (storing .writing [entry5 1, entry5 0] rig).rst.queue = entry5 1 :: [entry5 0]
      ∧ (storing .writing [⟨.job someJob, 0⟩] rig).rst.queue = ⟨.job someJob, 0⟩ :: []
      ∧ (storing .writing [⟨.settings Settings.dflt, 0⟩] rig).rst.queue = ⟨.settings Settings.dflt, 0⟩ :: []
      ∧ (storing .writing [⟨.rods [], 1⟩] rig).rst.queue = ⟨.rods [], 1⟩ :: []
      ∧ 8191 < 8192 :=
  ⟨rfl, rfl, rfl, (fun e => ⟨nofun, nofun⟩), by decide, rfl, rfl, rfl, rfl, rfl, rfl, rfl,
    by decide⟩

/-- The last slot of the ring is written and the position wraps to 0 (R141, R146). -/
theorem test_write_wraps :
    let s := (storing .writing [entry5 0] rig).modRst fun u => { u with strataPos := 8191 }
    let t := run (.writeComplete true 30) s
    (t.rst.areas.strata.get 8191, t.rst.strataPos, t.rst.areas.strata.seq 31, t.rst.ctl, t.rst.queue) =
      (some (.written (recordOf 5) 0), 0, some 1, .ready, []) := by decide +kernel

/-- The record of a JOBS entry ends its job (R136). -/
theorem test_job_committed :
    (run (.writeComplete true 30) (storing .writing [⟨.job someJob, 0⟩] (jobIn (.closing .offered)))).jmu.state = .noJob := by
  decide +kernel

theorem witness_VerifyFailures :
    (storing .writing [entry5 0] rig).power = .on ∧ (storing .writing [entry5 0] rig).rst.ctl = .writing
      ∧ (entry5 0).failures = 0 ∧ (storing .writing [entry5 0] rig).rst.readList = []
      ∧ ((storing .writing [entry5 0] rig).rst.putTarget (entry5 0) false).startOf { entry5 0 with failures := 1 } = .write
      ∧ (entry5 0).body = .strata (recordOf 5) ∧ (storing .writing [entry5 0] rig).rst.strataPos < 8192
      ∧ (entry5 1).failures = 1 ∧ QueueOk (storing .writing [entry5 1] drilling)
      ∧ (storing .writing [entry5 1] drilling).jmu.state = .opened
      ∧ (∀ x ∈ [entry5 1], ∀ r, x.body ≠ .job r) :=
  ⟨rfl, rfl, rfl, rfl, by decide +kernel, rfl, by decide, rfl, drilling_queueOk, rfl, by
    intro x h r; simp only [List.mem_singleton] at h; subst h; exact nofun⟩

/-- A first failure leaves a VOID slot; a second makes the store FAILED and drops the waiting parcel (R147, R148). -/
theorem test_verify_fails :
    let t := run (.writeComplete false 30) (storing .writing [entry5 0] drilling)
    let u := run (.writeComplete false 30) (storing .writing [entry5 1] drilling)
    (t.rst.areas.strata.get 0, t.rst.strataPos, t.rst.ctl) = (some .void, 1, .writing)
      ∧ (u.rst.ctl, u.rst.queue, u.lgu.parcels.map (·.status)) = (.failed, [], [.due, .inFlight]) := by decide +kernel

/-! ### Witnesses: field lines -/

theorem witness_SettingLineFunctions :
    CanTake ready .d .setLineFunction ∧ 11 < 12
      ∧ LineFn.ofCode 3 = some .encoder ∧ Polarity.ofCode 1 = some .activeLow ∧ LineFn.encoder.allowedOn 1 = false
      ∧ LineFn.generalIn.allowedOn 5 = true ∧ (ready.flu.line 5).claimed = true
      ∧ (LineFn.stroke1.allowedOn 1 = true ∧ LineFn.stroke1 ≠ .generalIn ∧ LineFn.stroke1 ≠ .generalOut
        ∧ ∃ j, j ≠ 1 ∧ (ready.flu.line j).cfg.fn = .stroke1 ∧ (ready.flu.line j).claimed = false)
      ∧ (LineFn.encoder.allowedOn 4 = true ∧ (ready.flu.line 4).cfg.fn = .encoder
        ∧ ¬∃ j, j ≠ 4 ∧ (ready.flu.line j).cfg.fn = .encoder ∧ (ready.flu.line j).claimed = false)
      ∧ LineFn.generalIn.allowedOn 4 = true
      ∧ CanTake ready .a .driveGeneralOutput :=
  ⟨canTake_of (by decide), by decide, rfl, rfl, by decide, by decide, rfl, by decide, by decide, by decide,
    canTake_of (by decide)⟩

/-- Taking ENCODER from FL4 gives FL5 back as GENERAL_IN; a claimed FL5 takes no request (R161). -/
theorem test_release_of_fl5 :
    let t := run (.setLineFunction .d 0 4 10 0 0) ready
    ((t.flu.line 5).cfg.fn, (t.flu.line 5).claimed, sent (run (.setLineFunction .d 0 5 10 0 0) ready) .d) =
      (.generalIn, false, some .wrongState) := by decide +kernel

/-- The drilling rig with the settled level of a line. -/
def settled (i : Fin 12) (level : Option Bool) (pin : Bool) (since : Nat) : State :=
  drilling.modFlu fun u => u.putLine i { u.line i with filtered := level, pin, stableSince := since }

theorem witness_PinsAndFilters :
    ready.power = .on ∧ (ready.flu.line 7).cfg.fn.isInput = false
      ∧ (drilling.flu.line 6).cfg.fn = .slips ∧ (drilling.flu.line 6).cfg.fn.isInput = true
      ∧ ((settled 6 none true 0).flu.line 6).filtered = none
      ∧ true = (((settled 6 (some false) true 0).flu.line 6).pin
          == decide (((settled 6 (some false) true 0).flu.line 6).cfg.pol = .activeHigh))
      ∧ ((settled 6 (some false) true 0).flu.line 6).filtered = some (!true)
      ∧ ((settled 6 (some true) true 0).flu.line 6).filtered = some true
      ∧ ((settled 0 (some false) true 1480).flu.line 0).cfg.fn = .stroke1
      ∧ ((settled 1 (some false) true 0).flu.line 1).cfg.fn = .generalIn
      ∧ ((settled 2 (some false) true 0).flu.line 2).cfg.fn = .stroke2
      ∧ ((settled 3 (some false) true 0).flu.line 3).cfg.fn = .returnFlow := by decide +kernel

/-- An edge accepted 149.9 ms after the last stroke is ignored, one at 150 ms counts (R163; entry 7). -/
theorem test_dead_time :
    let s (since : Nat) : State :=
      let t := settled 0 (some false) true since
      { t with flu := { t.flu with lastStroke1 := some 0 } }
    ((run (.inputFilterExpiry 0) (s 1479)).ccu.p1.strokes, (run (.inputFilterExpiry 0) (s 1479)).flu.ignored1,
      (run (.inputFilterExpiry 0) (s 1480)).ccu.p1.strokes) = (0, 1, 1) := by decide +kernel

/-- The rig with its bit 501 mm from the computed value. -/
def jumped : State := rig.modStr fun u => { u with d := 14999 }

theorem witness_EncoderAndDepths :
    (rig.modFlu fun u => { u with encRef := some (true, true) }).flu.encRef = some (true, true)
      ∧ (true ≠ false ∧ true ≠ false) ∧ (true ≠ false ↔ true = true)
      ∧ (rig.flu.line 4).cfg.fn = .encoder
      ∧ ((settled 4 (some false) true 0).flu.line 4).filtered = some false
      ∧ ((settled 5 (some false) true 0).flu.line 5).filtered = some false
      ∧ rig.str.slips = .set
      ∧ ((rig.modStr fun u => { u with slips := .released }).height ≠ 1
        ∧ (rig.modStr fun u => { u with slips := .released }).str.slips = .released ∧ rig.str.depth = .reliable
        ∧ rig.str.length - rig.height ≤ maxDepth)
      ∧ rig.flu.encRef = none
      ∧ ((settled 5 none true 9).flu.line 5).filtered = none
      ∧ ((settled 4 (some false) true 0).flu.line 4).stableSince = ((settled 5 (some false) true 0).flu.line 5).stableSince
      ∧ ((rig.modStr fun u => { u with depth := .faulted }).str.depth = .faulted)
      ∧ ((rig.str.length : Int) - rig.height - rig.str.d).natAbs ≤ rig.str.tol
      ∧ rig.str.tol < ((jumped.str.length : Int) - jumped.height - jumped.str.d).natAbs
      ∧ (rig.str.length - rig.height ≤ rig.str.hole ∧ rig.str.bha ≠ none) := by decide +kernel

/-- A release within the tolerance takes the computed depth and drills; past it d stays (R13). -/
theorem test_release :
    (above.slipsReleasedEdge.str.d, above.slipsReleasedEdge.str.hole, above.slipsReleasedEdge.str.offset) = (15500, 15500, 0)
      ∧ (jumped.slipsReleasedEdge.str.d, jumped.slipsReleasedEdge.str.offset) = (14999, 501) := by decide +kernel

/-! ### Witnesses: links and notices -/

/-- Link A is sending, and its latch of SLIPS_SET was set while masked. -/
def busyLink : State :=
  ready.modLink .a fun l => { l with
    sending := some (.notice ⟨.slipsSet, .raw true, 0⟩)
    latches := l.latches.set Cond.slipsSet.idx (some ⟨.raw true, 5⟩) }

theorem witness_ResettingMaskingClearing :
    busyLink.Ready ∧ busyLink.repliesFull .a = false ∧ CanTake busyLink .a .setNoticeMasks
      ∧ CanTake busyLink .a .clearNotices ∧ (∃ n ∈ [24], n < 1 ∨ 23 < n) ∧ (∃ n ∈ [0], n < 1 ∨ 23 < n)
      ∧ ((∀ n ∈ [1, 23], 1 ≤ n ∧ n ≤ 23) ∧ [1, 23].length ≤ 23)
      ∧ (busyLink.link .a).sending.isSome = true ∧ (busyLink.link .a).notices.length + 1 ≤ 16
      ∧ (∀ e, busyLink.rst.ctl ≠ .suspended e)
      ∧ (suspended [waiting]).Ready ∧ (suspended [waiting]).repliesFull .a = false
      ∧ (suspended [waiting]).rst.ctl = .suspended { erase6 with suspensions := 1 }
      ∧ (suspended [waiting]).rst.readList = waiting :: [] ∧ waiting.ln = .a ∧ waiting.ln ≠ .b :=
  ⟨⟨rfl, rfl⟩, rfl, canTake_of (by decide), canTake_of (by decide), by decide, by decide, by decide, rfl, by decide,
    (fun _ => nofun), ⟨rfl, rfl⟩, rfl, rfl, rfl, rfl, by decide⟩

/-- Link A's reset in a suspension completes its read without a reply and resumes the erase; link B's leaves it (R149, R176). -/
theorem test_reset_in_a_suspension :
    let s := suspended [waiting]
    ((run (.linkReset .a 0) s).rst.readList, (run (.linkReset .a 0) s).rst.ctl, (run (.linkReset .b 0) s).rst.readList) =
      ([], .erasing { erase6 with suspensions := 1 }, [waiting]) := by decide +kernel

/-- Unmasking a condition whose latch is set queues its frame with the latch's job second (R181). -/
theorem test_unmasking_queues :
    ((run (.setNoticeMasks .a 0 [4] false) busyLink).link .a).notices = [⟨.slipsSet, .raw true, 5⟩]
      ∧ ((run (.clearNotices .a 0 [4]) busyLink).link .a).latch .slipsSet = none := by decide +kernel

/-- Sixteen notices of one condition. -/
def sixteen : List Notice := List.replicate 16 ⟨.sampleDue, .interval 1, 0⟩

theorem witness_FiringAndLatching :
    (busyLink.link .a).latch .slipsSet ≠ none
      ∧ ((ready.link .a).latch .slipsSet = none ∧ (ready.link .a).masked .slipsSet = true)
      ∧ (listening.latch .slipsSet = none ∧ listening.masked .slipsSet = false ∧ listening.notices.length < 16
        ∧ listening.sending = none ∧ listening.replies = [] ∧ listening.notices = [] ∧ listening.owed = false)
      ∧ ({ listening with sending := some (.notice ⟨.sampleDue, .interval 0, 0⟩) } : LinkRec).sending ≠ none
      ∧ (16 ≤ ({ listening with notices := sixteen } : LinkRec).notices.length ∧ Cond.slipsSet ≠ .noticeOverflow
        ∧ ({ listening with notices := sixteen } : LinkRec).latch .noticeOverflow = none
        ∧ ({ listening with notices := sixteen } : LinkRec).masked .noticeOverflow = false)
      ∧ ({ listening with masks := listening.masks.set Cond.noticeOverflow.idx true } : LinkRec).masked .noticeOverflow = true
      ∧ ({ listening with
          latches := listening.latches.set Cond.noticeOverflow.idx (some ⟨.lostFrame .slipsSet, 0⟩) } : LinkRec).latch .noticeOverflow ≠ none := by decide +kernel

/-- A firing that finds 16 frames waiting is counted lost and owes the overflow frame (R180). -/
theorem test_overflow_is_owed :
    let l := { listening with notices := sixteen, sending := some (.notice ⟨.sampleDue, .interval 0, 0⟩) }
    let t := l.fire .slipsSet (.raw true) 9
    (t.lost, t.owed, t.latch .noticeOverflow, t.notices.length) = (1, true, some ⟨.lostFrame .slipsSet, 9⟩, 16) := by
  decide +kernel

/-- A reply of three frames, as Statement makes (R189). -/
def threeParts : Reply := ⟨47, 0, .ok, [[], [], []]⟩

/-- Link A in a frame with the given bytes, the last at 1,000 tenths. -/
def inFrame (bytes : List Byte) : State := ready.modLink .a fun l => { l with rx := .inFrame bytes 1000 }

theorem witness_TransmitterAndReceiver :
    ready.power = .on ∧ (ready.link .a).sending = none
      ∧ (((ready.modLink .a fun l => { l with sending := some (.reply threeParts 1) }).link .a).sending
          = some (.reply threeParts 1) ∧ 1 + 1 < threeParts.parts.length)
      ∧ (((ready.modLink .a fun l => { l with sending := some (.reply threeParts 2) }).link .a).sending
          = some (.reply threeParts 2) ∧ threeParts.parts.length ≤ 2 + 1)
      ∧ (busyLink.link .a).sending ≠ none ∧ (busyLink.link .a).replies = [] ∧ (busyLink.link .a).notices = []
      ∧ ((busyLink.modLink .a fun l => { l with replies := [threeParts] }).link .a).replies = [threeParts]
      ∧ ((busyLink.modLink .a fun l => { l with notices := sixteen }).link .a).notices = sixteen
      ∧ State.reset.loaded = false ∧ ready.loaded = true ∧ (ready.link .a).rx = .hunting
      ∧ ((inFrame []).link .a).rx = .inFrame [] 1000 ∧ 1000 + 200 < 1201 ∧ 1200 ≤ 1000 + 200
      ∧ ((1 : Byte).toNat < 2 ∧ 250 < (251 : Byte).toNat)
      ∧ ([] ++ [(2 : Byte)] = 2 :: [] ∧ 2 ≤ (2 : Byte).toNat ∧ (2 : Byte).toNat ≤ 250
        ∧ ([] : List Byte).length < (2 : Byte).toNat + 1)
      ∧ ([(2 : Byte), 17, 0] ++ [1] = 2 :: [17, 0, 1] ∧ [(17 : Byte), 0, 1].length = (2 : Byte).toNat + 1
        ∧ crc8 [2, 17, 0] ≠ 1) := by decide +kernel

theorem witness_receiver_commands : ready.Ready ∧ ((inFrame [2]).link .a).rx = .inFrame [2] 1000 ∧ (inFrame [2]).Ready :=
  ⟨⟨rfl, rfl⟩, rfl, ⟨rfl, rfl⟩⟩

/-- A gap of 20 ms keeps the frame, one tenth more discards it (R171). -/
theorem test_inter_byte_gap :
    ((run (.byteArrival .a 2 1200) (inFrame [])).link .a).rx = .inFrame [2] 1200
      ∧ ((run (.byteArrival .a 2 1201) (inFrame [])).link .a).rx = .hunting
      ∧ ((run (.byteArrival .a 2 1201) (inFrame [])).link .a).frameErrors = 1 := by decide +kernel

/-- The bytes of Pick's frame, one after another, do what the command does (R170, R186). -/
theorem test_pick_by_its_bytes :
    (match deliver .b (frameOf 16 7 (num 2 2)) rig with
      | .next t => decide (t = run (.pick .b 7 2) rig)
      | _ => false) = true := by decide +kernel

/-! ### Witnesses: invariants -/

/-- The drilling rig with a command waiting. -/
def about (c : Instr) : State := { drilling with pending := [c] }

theorem test_step_takes_the_front :
    (match step (about .timeBaseTick) with
      | .next t => decide (t.tick = 1 ∧ t.pending = [])
      | _ => false) = true := by decide +kernel

theorem witness_StepKeepsRooms : RoomsOk (about .timeBaseTick) :=
  ⟨by intro ln; cases ln <;> exact ⟨by decide, by decide, by decide, fun _ => ⟨rfl, rfl⟩⟩, by decide, by decide⟩

theorem witness_StepKeepsTheCuttingsQueue : QueueOk (about .windowExpiry) := drilling_queueOk

theorem witness_StepKeepsMetersAndLift :
    MetersOk (about .timeBaseTick) ∧ LiftOk (about .windowExpiry) ∧ BalanceOk { balanced with pending := [.timeBaseTick] } :=
  ⟨fun _ => by decide, by unfold LiftOk; decide, balanced_ok⟩

theorem witness_StepKeepsDepths : DepthsOk (about (.setBlockHeight .a 0 0)) := ⟨by decide, by decide⟩

theorem witness_StepKeepsSettings : SettingsOk (about (.setBlockHeight .a 0 0)) := drilling_settingsOk

theorem witness_StepKeepsRingsAndHandling :
    RingsOk (storing .writing [entry5 0] rig) ∧ HandlingOk (adding .addPicked) ∧ RodsOk (adding .addPicked) :=
  ⟨⟨rfl, rfl⟩, ⟨rfl, by decide⟩, ⟨rfl, by decide⟩, by decide, by decide, by decide, by decide, by decide, by decide,
    by decide, (by intro id h; cases h; exact ⟨_, .tail _ (.head _), rfl⟩), by decide, rfl, rfl, rfl⟩

end Sys2Proof.Tests
end

section
/-! Connections, strokes and ticks. First what the shared operations do (a request answered with a status alone, a
change of the connection state, the rod in handling), then the add and break sequences (R24 to R30) and the resolution of a
fault (R36 to R38). -/

namespace Sys2Proof.ConnectionProofs

open Sys2Proof Machine

/-! ### Requests answered with a status alone -/

/-- A request its link can take whose owner answers with a status alone (R173, R174). -/
theorem request_of_say {s t : State} {ln : Link} {k : Kind} {st : Status} {own : State → State × Answer}
    (h : CanTake s ln k) (tag : Nat) (hown : own s = say st t) :
    request ln tag k own s = .next (t.sayOn ln k.number tag st) := by
  rw [request_of_canTake h, hown]
  rfl

/-! ### A change of the connection state (R22, R32, R35) -/

/-- Is it FAULT? -/
def faulted : ConnState → Bool
  | .fault _ => true
  | _ => false

/-- The raw value of CONNECTION_FAULT is true exactly in FAULT (R35). -/
theorem rawValue_connectionFault (s : State) : s.rawValue .connectionFault = faulted s.cxu.state := by
  unfold State.rawValue faulted
  cases s.cxu.state <;> rfl

@[simp] theorem fireLevel_same (s : State) (c : Cond) (b : Bool) : s.fireLevel c b b = s := by simp [State.fireLevel]

theorem fireLevel_of_ne (s : State) (c : Cond) {was now : Bool} (h : was ≠ now) :
    s.fireLevel c was now = s.fire c (.raw now) := if_neg h

/-- A level fires exactly if its raw value has changed: the statements' way of writing it (R178). -/
theorem fireLevel_eq_ite (s : State) (c : Cond) (was now : Bool) :
    s.fireLevel c was now = if was = now then s else s.fire c (.raw now) := rfl

/-- The state changes first; then CONNECTION_FAULT and PUMP_PERMIT fire if their raw values change with it. -/
theorem setConn_eq (s : State) (c : ConnState) :
    s.setConn c =
      ((s.modCxu fun u => { u with state := c }).fireLevel .connectionFault (faulted s.cxu.state)
        (faulted c)).fireLevel .pumpPermit s.cxu.state.permit c.permit := by
  simp only [State.setConn, rawValue_connectionFault, State.modCxu_cxu]

/-- A change between two states alike in fault and permit fires nothing. -/
theorem setConn_of_quiet {s : State} {c : ConnState} (hf : faulted s.cxu.state = faulted c)
    (hp : s.cxu.state.permit = c.permit) : s.setConn c = s.modCxu fun u => { u with state := c } := by
  rw [setConn_eq, hf, hp, fireLevel_same, fireLevel_same]

/-- A change between states without a fault fires the permit that it withdraws or asserts. -/
theorem setConn_of_permit {s : State} {c : ConnState} {b : Bool} (hf : faulted s.cxu.state = faulted c)
    (hwas : s.cxu.state.permit = !b) (hnow : c.permit = b) :
    s.setConn c = (s.modCxu fun u => { u with state := c }).fire .pumpPermit (.raw b) := by
  rw [setConn_eq, hf, hwas, hnow, fireLevel_same, fireLevel_of_ne _ _ (by simp)]

/-- A fault entered from a state with the permit it leaves fires CONNECTION_FAULT alone (R35). -/
theorem enterFault_eq {s : State} {cause : ConnCause} {origin : Origin} (hf : faulted s.cxu.state = false)
    (hp : s.cxu.state.permit = !origin.withdrawn) :
    s.enterFault cause origin =
      (s.modCxu fun u => { u with state := .fault ⟨cause, origin⟩ }).fire .connectionFault (.raw true) := by
  have hperm : s.cxu.state.permit = (ConnState.fault ⟨cause, origin⟩).permit := hp
  unfold State.enterFault
  rw [setConn_eq, hf, hperm, fireLevel_same, fireLevel_of_ne _ _ (by simp [faulted])]
  rfl

/-! ### The rod in handling -/

theorem slips_set_of_ne {x : Slips} (h : x ≠ .released) : x = .set := by
  cases x with
  | set => rfl
  | released => exact absurd rfl h

theorem putHandled_of_some {s : State} {id : Nat} (h : s.cxu.handling = some id) (st : RodState) :
    s.putHandled st = s.moveRod id st := by
  unfold State.putHandled
  rw [h]

/-- Putting the handled rod anywhere touches the String Table Unit alone. -/
theorem putHandled_eq (s : State) (st : RodState) : s.putHandled st = { s with str := (s.putHandled st).str } := by
  unfold State.putHandled
  split <;> rfl

/-- The rod is the top of the string and has one run more (R16, R26). -/
def withTop (u : StringUnit) (id : Nat) : StringUnit :=
  { u with
    list := u.list ++ [id]
    rods := u.rods.map fun x => if x.id = id then { x with state := .string, runs := min 65535 (x.runs + 1) } else x }

theorem appendTop_of_set {s : State} (h : s.str.slips = .set) (id : Nat) :
    s.appendTop id = s.modStr fun u => withTop u id := by
  simp only [State.appendTop, State.modStr_str, h, reduceCtorEq, if_false]
  rfl

/-- With the slips RELEASED the offset rises by the rod's length, so that d keeps its value (R16). -/
theorem appendTop_of_released {s : State} (h : s.str.slips = .released) (id : Nat) :
    s.appendTop id = s.modStr fun u => { withTop u id with offset := u.offset + rodLen u id } := by
  simp only [State.appendTop, State.modStr_str, h, if_true]
  rfl

theorem joinHandled_of_some {s : State} {id : Nat} (h : s.cxu.handling = some id) : s.joinHandled = s.appendTop id := by
  unfold State.joinHandled
  rw [h]

/-- Appending the handled rod touches the String Table Unit alone. -/
theorem joinHandled_eq (s : State) : s.joinHandled = { s with str := s.joinHandled.str } := by
  unfold State.joinHandled
  split
  next id _ =>
    cases hs : s.str.slips with
    | set => rw [appendTop_of_set hs]; rfl
    | released => rw [appendTop_of_released hs]; rfl
  next => rfl

/-! ### Pick (R24) -/

theorem ownPick_of_refusal {rod : Nat} {s : State} {st : Status} (hfree : s.cxu.state = .free)
    (h : pickRefusal rod s = some st) : ownPick rod s = say st s := by
  simp [ownPick, hfree, h]

/-- An accepted Pick brings the rod into HANDLING and fires nothing. -/
theorem ownPick_of_accepted {rod : Nat} {s : State} (hfree : s.cxu.state = .free) (h : pickRefusal rod s = none) :
    ownPick rod s =
      say .ok (((s.moveRod rod .handling).setHandling (some rod)).modCxu fun u => { u with state := .addPicked }) := by
  have hquiet := setConn_of_quiet (s := (s.moveRod rod .handling).setHandling (some rod)) (c := .addPicked)
    (by simp [State.moveRod, hfree, faulted]) (by simp [State.moveRod, hfree, ConnState.permit])
  simp only [ownPick, hfree, h, ne_eq, not_true_eq_false, if_false, hquiet]

/-- Settles O19: the checks of `pickRefusal`, one after another, then `ownPick_of_accepted`. -/
theorem picking : Obligations.Picking := by
  unfold Obligations.Picking
  intro ln tag rod s h
  have answered : ∀ {st t}, ownPick rod s = say st t →
      exec (.pick ln tag rod) s = .next (t.sayOn ln 16 tag st) := request_of_say h tag
  split
  next hbusy => exact answered (if_pos hbusy)
  next hbusy =>
  have hfree := not_not.mp hbusy
  split
  next hbha => exact answered (ownPick_of_refusal hfree (by simp [pickRefusal, hbha]))
  next hbha =>
  split
  next hslips => exact answered (ownPick_of_refusal hfree (by simp [pickRefusal, hbha, hslips]))
  next hslips =>
  have hset := slips_set_of_ne hslips
  split
  next hfind => exact answered (ownPick_of_refusal hfree (by simp [pickRefusal, hbha, hset, findRod, hfind]))
  next r hfind =>
  split
  next hrack => exact answered (ownPick_of_refusal hfree (by simp [pickRefusal, hbha, hset, findRod, hfind, hrack]))
  next hrack =>
  split
  next hfull =>
    exact answered (ownPick_of_refusal hfree (by simp [pickRefusal, hbha, hset, findRod, hfind, hrack, hfull]))
  next hfull =>
  split
  next hthread =>
    rw [← Option.isNone_iff_eq_none] at hthread
    refine answered (ownPick_of_refusal hfree ?_)
    simpa [pickRefusal, hbha, hset, findRod, hfind, hrack, hfull, or_iff_not_imp_left] using hthread
  next hthread =>
    exact answered (ownPick_of_accepted hfree (by simp [pickRefusal, hbha, hset, findRod, hfind, hrack, hfull, hthread]))

/-! ### Stab, Made Up and Abort Add (R25 to R27) -/

theorem ownStab_of_picked {s : State} (h : s.cxu.state = .addPicked) :
    ownStab s = say .ok (s.modCxu fun u => { u with state := .addStabbed }) := by
  rw [ownStab, if_pos h, setConn_of_quiet (by rw [h]; rfl) (by rw [h]; rfl)]

/-- The torque a rod of a defined class needs (R26). -/
theorem minTorque_eq {s : State} {id : Nat} {r : Rod} {c : RodClass} (hh : s.cxu.handling = some id)
    (hr : findRod s.str.rods id = some r) (hc : classEntry s.str.classes r.cls = some c) : s.minTorque = c.torque := by
  simp [State.minTorque, hh, hr, hc]

/-- Enough torque on SET slips: the rod is the top of the string, the connection FREE and its record written (R26, R31). -/
theorem ownMadeUp_of_enough {torque id : Nat} {s : State} (hstate : s.cxu.state = .addStabbed)
    (hh : s.cxu.handling = some id) (hslips : s.str.slips = .set) (htorque : ¬ torque < s.minTorque) :
    ownMadeUp torque s =
      say .ok { s with
        str := withTop s.str id
        cxu := { state := .free, handling := none
                 last := some { kind := .madeUp, rod := some id, torque := some torque, resolution := none
                                time := s.tick } } } := by
  have hjoin := (joinHandled_of_some hh).trans (appendTop_of_set hslips id)
  have hquiet := setConn_of_quiet (s := s.joinHandled.setHandling none) (c := .free)
    (by simp [hjoin, hstate, faulted]) (by simp [hjoin, hstate, ConnState.permit])
  rw [ownMadeUp, if_neg (not_not.mpr hstate), if_neg htorque, hquiet, hjoin, hh]
  rfl

/-- Settles O20. -/
theorem stabAndMadeUp : Obligations.StabAndMadeUp := by
  unfold Obligations.StabAndMadeUp
  constructor
  · intro ln tag s h
    split
    next hpicked => exact request_of_say h tag (ownStab_of_picked hpicked)
    next hpicked => exact request_of_say h tag (if_neg hpicked)
  · intro ln tag torque s h
    refine ⟨fun hne => request_of_say h tag (if_pos hne), fun id r c hstate hh hr hc hslips => ?_⟩
    have hmin := minTorque_eq hh hr hc
    split
    next hlow => exact request_of_say h tag (by simp [ownMadeUp, hstate, hmin, hlow])
    next hlow => exact request_of_say h tag (ownMadeUp_of_enough hstate hh hslips (by rwa [hmin]))

/-- The rod goes back to the rack and the connection is FREE; neither state of an add withdraws the permit (R27, R32). -/
theorem ownAbortAdd_of_adding {s : State} {id : Nat} (hstate : s.cxu.state = .addPicked ∨ s.cxu.state = .addStabbed)
    (hh : s.cxu.handling = some id) :
    ownAbortAdd s =
      say .ok (((s.moveRod id .rack).setHandling none).modCxu fun u => { u with state := .free }) := by
  have hput := putHandled_of_some hh .rack
  have hquiet := setConn_of_quiet (s := (s.putHandled .rack).setHandling none) (c := .free)
    (by rcases hstate with h | h <;> simp [hput, State.moveRod, h, faulted])
    (by rcases hstate with h | h <;> simp [hput, State.moveRod, h, ConnState.permit])
  rw [ownAbortAdd, if_pos hstate, hquiet, hput]

/-- Settles O21. -/
theorem abortingAnAdd : Obligations.AbortingAnAdd := by
  unfold Obligations.AbortingAnAdd
  intro ln tag s h
  exact ⟨fun h1 h2 => request_of_say h tag (if_neg (not_or.mpr ⟨h1, h2⟩)),
    fun id hstate hh => request_of_say h tag (ownAbortAdd_of_adding hstate hh)⟩

/-! ### The break sequence (R28 to R30) -/

/-- The top rod leaves the list and is the rod in handling (R29). -/
theorem takeTop_of_append {s : State} {below : List Nat} {id : Nat} (h : s.str.list = below ++ [id]) :
    s.takeTop =
      (s.modStr fun u => { u with list := below, rods := setRodState u.rods id .handling }).setHandling (some id) := by
  simp [State.takeTop, State.modStr, h]

/-- Broken with the slips SET: the permit stays withdrawn (R29, R32). -/
theorem ownBroken_of_requested {s : State} {below : List Nat} {id : Nat} (hstate : s.cxu.state = .breakRequested)
    (hslips : s.str.slips = .set) (h : s.str.list = below ++ [id]) :
    ownBroken s =
      say .ok (((s.modStr fun u => { u with list := below, rods := setRodState u.rods id .handling }).setHandling
        (some id)).modCxu fun u => { u with state := .breakOpen }) := by
  have htop := takeTop_of_append h
  have hquiet := setConn_of_quiet (s := s.takeTop) (c := .breakOpen) (by simp [htop, hstate, faulted])
    (by simp [htop, hstate, ConnState.permit])
  rw [ownBroken, if_neg (not_not.mpr hstate), if_neg (by rw [hslips]; exact nofun), hquiet, htop]

/-- Settles O22. -/
theorem breakAndBroken : Obligations.BreakAndBroken := by
  unfold Obligations.BreakAndBroken
  constructor
  · intro ln tag s h
    have answered : ∀ {st t}, ownBreakOut s = say st t →
        exec (.breakOut ln tag) s = .next (t.sayOn ln 20 tag st) := request_of_say h tag
    split
    next hbusy => exact answered (if_pos hbusy)
    next hbusy =>
    have hfree := not_not.mp hbusy
    split
    next hslips => exact answered (by simp [ownBreakOut, hfree, hslips])
    next hslips =>
    have hset := slips_set_of_ne hslips
    split
    next hlist => exact answered (by simp [ownBreakOut, hfree, hset, hlist])
    next hlist =>
    split
    next hpumps => exact answered (by simp [ownBreakOut, hfree, hset, hlist, hpumps])
    next hpumps =>
      have hperm := setConn_of_permit (s := s) (c := .breakRequested) (b := false) (by rw [hfree]; rfl)
        (by rw [hfree]; rfl) rfl
      refine answered ?_
      rw [ownBreakOut, if_neg hbusy, if_neg (not_not.mpr hset), if_neg hlist, if_neg hpumps, hperm]
      rfl
  · intro ln tag s h
    exact ⟨fun hne => request_of_say h tag (if_pos hne),
      fun hstate hslips => request_of_say h tag (by simp [ownBroken, hstate, hslips]),
      fun below id hstate hslips hlist => request_of_say h tag (ownBroken_of_requested hstate hslips hlist)⟩

/-- The end of a break: the rod in its place, FREE with the permit asserted again, and the completion record (R30 to R32). -/
theorem putAway_of_open {s : State} {id : Nat} (hstate : s.cxu.state = .breakOpen) (hh : s.cxu.handling = some id)
    (st : RodState) (kind : CompletionKind) :
    s.putAway st kind =
      ({ s with
        str := { s.str with rods := setRodState s.str.rods id st }
        cxu := { state := .free, handling := none
                 last := some { kind, rod := some id, torque := none, resolution := none
                                time := s.tick } } } : State).fire .pumpPermit (.raw true) := by
  have hput := putHandled_of_some hh st
  have hperm := setConn_of_permit (s := (s.putHandled st).setHandling none) (c := .free) (b := true)
    (by simp [hput, State.moveRod, hstate, faulted]) (by simp [hput, State.moveRod, hstate, ConnState.permit]) rfl
  rw [State.putAway, hperm, hput, hh]
  rfl

/-- Settles O23. -/
theorem rackedAndLaidDown : Obligations.RackedAndLaidDown := by
  unfold Obligations.RackedAndLaidDown
  intro ln tag s
  refine ⟨fun h hne => request_of_say h tag (if_neg hne), fun h hne => request_of_say h tag (if_neg hne),
    fun id hstate hh => ⟨fun h => request_of_say h tag ?_, fun h => request_of_say h tag ?_⟩⟩
  · rw [ownRacked, if_pos hstate, putAway_of_open hstate hh]
    rfl
  · rw [ownLaidDown, if_pos hstate, putAway_of_open hstate hh]
    rfl


/-! ### Resolving a fault (R36 to R38) -/

/-- The codes of the resolutions that a fault's origin allows, in the statement's words (R36). -/
def allowedCode (o : Origin) (code : Nat) : Bool :=
  match o with
  | .addPicked | .addStabbed => code == 0 || code == 1 || code == 2
  | .breakRequested => code == 3
  | .breakOpen => code == 1 || code == 2

/-- An allowed code is the code of a resolution that the model's table allows. -/
theorem allowedCode_iff (o : Origin) (code : Nat) :
    allowedCode o code = true ↔ ∃ r, Resolution.ofCode code = some r ∧ o.allows r = true := by
  match code with
  | 0 | 1 | 2 | 3 => cases o <;> simp [allowedCode, Resolution.ofCode, Origin.allows]
  | n + 4 => cases o <;> simp [allowedCode, Resolution.ofCode]

theorem code_of_ofCode {code : Nat} {r : Resolution} (h : Resolution.ofCode code = some r) : r.code = code := by
  unfold Resolution.ofCode at h
  split at h <;> cases h <;> rfl

/-- A resolution touches the String Table Unit alone. -/
theorem resolveRod_eq (s : State) (r : Resolution) : s.resolveRod r = { s with str := (s.resolveRod r).str } := by
  cases r with
  | keep => exact joinHandled_eq s
  | ret => exact putHandled_eq s .rack
  | layDown => exact putHandled_eq s .laidDown
  | restore => rfl

/-- Leaving FAULT fires CONNECTION_FAULT, then PUMP_PERMIT if the origin had withdrawn the permit (R32, R35, R36). -/
theorem setConn_free_of_fault {s : State} {f : FaultRec} (h : s.cxu.state = .fault f) :
    s.setConn .free =
      let t := (s.modCxu fun u => { u with state := .free }).fire .connectionFault (.raw false)
      if f.origin = .breakRequested ∨ f.origin = .breakOpen then t.fire .pumpPermit (.raw true) else t := by
  have hfault : (faulted s.cxu.state) ≠ faulted .free := by rw [h]; exact nofun
  have hpermit : s.cxu.state.permit = !f.origin.withdrawn := by rw [h]; rfl
  rw [setConn_eq, fireLevel_of_ne _ _ hfault, hpermit, fireLevel_eq_ite]
  cases f.origin <;> rfl

/-- The state that an allowed resolution leaves (R36 to R38). -/
theorem ownAcknowledgeFault_of_allowed {code : Nat} {s : State} {f : FaultRec} {r : Resolution}
    (hstate : s.cxu.state = .fault f) (hcode : Resolution.ofCode code = some r) (hallows : f.origin.allows r = true) :
    ownAcknowledgeFault code s =
      say .ok
        (let t := ({ s with
          str := (s.resolveRod r).str
          cxu := { state := .free, handling := none
                   last := some { kind := .resolved, rod := s.cxu.handling, torque := none, resolution := some r
                                  time := s.tick } } } : State).fire .connectionFault (.raw false)
         if f.origin = .breakRequested ∨ f.origin = .breakOpen then t.fire .pumpPermit (.raw true) else t) := by
  have hrod := resolveRod_eq s r
  have hconn := setConn_free_of_fault (s := (s.resolveRod r).setHandling none) (f := f) (by rw [hrod]; exact hstate)
  simp only [ownAcknowledgeFault, hstate, hcode, hallows, if_true, hconn]
  rw [hrod]
  split <;> rfl

theorem ownAcknowledgeFault_of_disallowed {code : Nat} {s : State} {f : FaultRec} (hstate : s.cxu.state = .fault f)
    (h : ¬ ∃ r, Resolution.ofCode code = some r ∧ f.origin.allows r = true) :
    ownAcknowledgeFault code s = say .badValue s := by
  simp only [ownAcknowledgeFault, hstate]
  split
  next r hr => exact if_neg fun hallows => h ⟨r, hr, hallows⟩
  next => rfl

theorem ownAcknowledgeFault_of_noFault {code : Nat} {s : State} (h : faulted s.cxu.state = false) :
    ownAcknowledgeFault code s = say .wrongState s := by
  unfold ownAcknowledgeFault
  split
  next f hf => rw [hf] at h; cases h
  next => rfl

/-- KEEP appends the rod at the top; the offset rises while the slips are RELEASED (R37). -/
theorem resolveRod_keep {s : State} {id : Nat} (hh : s.cxu.handling = some id) :
    (s.resolveRod .keep).str =
      { withTop s.str id with
        offset := if s.str.slips = .released then s.str.offset + rodLen s.str id else s.str.offset } := by
  have hjoin : s.resolveRod .keep = s.appendTop id := joinHandled_of_some hh
  rw [hjoin]
  split
  next hslips => rw [appendTop_of_released hslips]; rfl
  next hslips =>
    have hset := slips_set_of_ne hslips
    rw [appendTop_of_set hset]
    rfl

/-- RETURN and LAY_DOWN put the rod away (R37). -/
theorem resolveRod_put {s : State} {id : Nat} (hh : s.cxu.handling = some id) :
    (s.resolveRod .ret).str = { s.str with rods := setRodState s.str.rods id .rack }
      ∧ (s.resolveRod .layDown).str = { s.str with rods := setRodState s.str.rods id .laidDown } :=
  ⟨congrArg State.str (putHandled_of_some hh .rack), congrArg State.str (putHandled_of_some hh .laidDown)⟩

/-- Settles O24. -/
theorem resolvingAFault : Obligations.ResolvingAFault := by
  unfold Obligations.ResolvingAFault
  intro ln tag code s h
  refine ⟨fun hraw => request_of_say h tag (ownAcknowledgeFault_of_noFault ?_), fun f hstate => ?_⟩
  · rwa [rawValue_connectionFault] at hraw
  show (allowedCode f.origin code = false → _) ∧ (allowedCode f.origin code = true → _)
  constructor
  · intro hno
    refine request_of_say h tag (ownAcknowledgeFault_of_disallowed hstate ?_)
    rw [← allowedCode_iff, hno]
    exact Bool.false_ne_true
  · intro hyes _
    obtain ⟨r, hcode, hallows⟩ := (allowedCode_iff f.origin code).mp hyes
    have hr := code_of_ofCode hcode
    refine ⟨(s.resolveRod r).str, r, request_of_say h tag (ownAcknowledgeFault_of_allowed hstate hcode hallows), hr, ?_⟩
    subst hr
    cases r with
    | keep => exact ⟨nofun, fun id hh => ⟨nofun, nofun, fun _ => resolveRod_keep hh⟩⟩
    | ret => exact ⟨nofun, fun id hh => ⟨fun _ => (resolveRod_put hh).1, nofun, nofun⟩⟩
    | layDown => exact ⟨nofun, fun id hh => ⟨nofun, fun _ => (resolveRod_put hh).2, nofun⟩⟩
    | restore => exact ⟨fun _ => rfl, fun id hh => ⟨nofun, nofun, nofun⟩⟩

end Sys2Proof.ConnectionProofs
end

section
/-! What the path of a final record (R89), a rise of the lift counter (R84) and an advance of the hole (R17, R97) leave
alone: the rig itself. -/

namespace Sys2Proof.ConnectionProofs

open Sys2Proof Machine

/-- The rig as the records see it: the tick count and the four units that no record changes. -/
structure Rig where
  tick : Nat
  flu : FieldUnit
  str : StringUnit
  cxu : ConnUnit
  ccu : CircUnit

/-- The rig in a state. -/
def rig (s : State) : Rig := ⟨s.tick, s.flu, s.str, s.cxu, s.ccu⟩

theorem rig_eq_iff (s t : State) :
    rig t = rig s ↔ t.tick = s.tick ∧ t.flu = s.flu ∧ t.str = s.str ∧ t.cxu = s.cxu ∧ t.ccu = s.ccu := by
  simp [rig]

/-! ### Firings and the units that keep the records -/

@[simp] theorem rig_fire (s : State) (c : Cond) (x : Content) : rig (s.fire c x) = rig s := rfl

@[simp] theorem rig_modLgu (s : State) (f : LagUnit → LagUnit) : rig (s.modLgu f) = rig s := rfl

@[simp] theorem rig_modSlu (s : State) (f : StrataUnit → StrataUnit) : rig (s.modSlu f) = rig s := rfl

@[simp] theorem rig_modJmu (s : State) (f : JobUnit → JobUnit) : rig (s.modJmu f) = rig s := rfl

@[simp] theorem rig_modRst (s : State) (f : Store → Store) : rig (s.modRst f) = rig s := rfl

@[simp] theorem rig_fireLevel (s : State) (c : Cond) (was now : Bool) : rig (s.fireLevel c was now) = rig s := by
  simp [rig]

@[simp] theorem rig_fireEach (s : State) (c : Cond) (xs : List Content) : rig (s.fireEach c xs) = rig s := by
  rw [State.fireEach_eq]
  rfl

@[simp] theorem rig_offer (s : State) (b : EntryBody) : rig (s.offer b).1 = rig s := rfl

theorem rig_of_offer {s t : State} {b : EntryBody} {o : Offer} (h : s.offer b = (t, o)) : rig t = rig s := by
  rw [← rig_offer s b, h]

/-! ### The path of a final record -/

@[simp] theorem rig_evalNearFull (s : State) : rig s.evalNearFull = rig s := by simp [State.evalNearFull]

@[simp] theorem rig_modParcel (s : State) (n : Nat) (f : Parcel → Parcel) : rig (s.modParcel n f) = rig s := rfl

@[simp] theorem rig_dropParcel (s : State) (n : Nat) : rig (s.dropParcel n) = rig s := by simp [State.dropParcel]

@[simp] theorem rig_dropStrata (s : State) (r : StrataRec) : rig (s.dropStrata r) = rig s := rfl

@[simp] theorem rig_classify (s : State) (r : StrataRec) : rig (s.classify r) = rig s := rfl

@[simp] theorem rig_compareStratum (s : State) (r : StrataRec) : rig (s.compareStratum r) = rig s := by
  unfold State.compareStratum
  split
  · split
    · split <;> rfl
    · rfl
  · rfl

@[simp] theorem rig_placeParcel (s : State) (r : StrataRec) (o : Offer) : rig (s.placeParcel r o) = rig s := by
  cases o <;> simp [State.placeParcel]

@[simp] theorem rig_placeLoose (s : State) (r : StrataRec) (o : Offer) : rig (s.placeLoose r o) = rig s := by
  cases o with
  | accepted => rfl
  | failed => rfl
  | full =>
    simp only [State.placeLoose]
    split <;> rfl

@[simp] theorem rig_popOverflow (s : State) : rig s.popOverflow = rig s := rfl

@[simp] theorem rig_reoffer (l : List Waiting) : ∀ s : State, rig (reoffer l s) = rig s := by
  induction l with
  | nil => exact fun _ => rfl
  | cons w rest ih =>
    intro s
    cases w <;> unfold reoffer <;> split <;> rename_i hoffer <;> simp [ih, rig_of_offer hoffer]

@[simp] theorem rig_endJob (s : State) : rig s.endJob = rig s := rfl

@[simp] theorem rig_releaseCheck (s : State) : rig s.releaseCheck = rig s := by
  unfold State.releaseCheck
  split
  · split
    · rfl
    · split <;> rename_i hoffer <;> simp [rig_of_offer hoffer]
  · rfl

@[simp] theorem rig_handOn (s : State) : rig s.handOn = rig s := by simp [State.handOn]

@[simp] theorem rig_dropEntry (s : State) (b : EntryBody) : rig (s.dropEntry b) = rig s := by
  cases b <;> rfl

@[simp] theorem rig_work (s : State) (e : Entry) : rig (s.work e).1 = rig s := by
  unfold State.work
  split <;> simp

@[simp] theorem rig_takeLoop (fuel : Nat) : ∀ s : State, rig (takeLoop fuel s) = rig s := by
  induction fuel with
  | zero => exact fun _ => rfl
  | succ fuel ih =>
    intro s
    unfold takeLoop
    split
    next e _ _ _ =>
      have hwork := rig_work s e
      split <;> rename_i heq <;> rw [heq] at hwork <;> simp [ih, hwork]
    next => rfl

@[simp] theorem rig_takeHead (s : State) : rig s.takeHead = rig s := rig_takeLoop _ s

@[simp] theorem rig_finishParcel (s : State) (r : StrataRec) : rig (s.finishParcel r) = rig s := by
  simp [State.finishParcel]

@[simp] theorem rig_finishLoose (s : State) (r : StrataRec) : rig (s.finishLoose r) = rig s := by
  simp [State.finishLoose]

/-! ### Rises of the lift counter and advances of the hole -/

/-- A fold of operations that leave the rig alone leaves it alone. -/
theorem rig_foldl {α : Type} {f : State → α → State} (hf : ∀ s x, rig (f s x) = rig s) (l : List α) :
    ∀ s : State, rig (l.foldl f s) = rig s := by
  induction l with
  | nil => exact fun _ => rfl
  | cons x l ih => exact fun s => (ih (f s x)).trans (hf s x)

@[simp] theorem rig_expire (s : State) (r : StrataRec) : rig (s.expire r) = rig s := by simp [State.expire]

@[simp] theorem rig_becomeDue (s : State) (n : Nat) : rig (s.becomeDue n) = rig s := by simp [State.becomeDue]

/-- Expiry and due detection leave the rig alone (R84). -/
@[simp] theorem rig_liftRose (s : State) : rig s.liftRose = rig s := by
  simp [State.liftRose, State.dueDetection, State.windowExpiry, rig_foldl rig_becomeDue, rig_foldl rig_expire]

@[simp] theorem rig_createParcel (s : State) (r : StrataRec) : rig (s.createParcel r) = rig s := by
  simp [State.createParcel]

@[simp] theorem rig_parcelFate (s : State) (r : StrataRec) : rig (s.parcelFate r) = rig s := by
  unfold State.parcelFate
  split
  · simp
  · split <;> simp

@[simp] theorem rig_closeInterval (s : State) (iv : OpenInterval) : rig (s.closeInterval iv) = rig s := by
  simp [State.closeInterval]

@[simp] theorem rig_closeReached (h fuel : Nat) : ∀ s : State, rig (closeReached h fuel s) = rig s := by
  induction fuel with
  | zero => exact fun _ => rfl
  | succ fuel ih =>
    intro s
    unfold closeReached
    split
    · split
      · simp [ih]
      · rfl
    · rfl

/-- Drilled depth reported leaves the rig alone (R17, R97, R115). -/
@[simp] theorem rig_reportAdvance (s : State) (dh h : Nat) : rig (s.reportAdvance dh h) = rig s := by
  unfold State.reportAdvance State.strataAdvance
  split <;> simp [State.meterAdvance]

end Sys2Proof.ConnectionProofs
end

section
/-! What faults a connection (R33 to R35), and the output lines after the start-up load (R166, R169). -/

namespace Sys2Proof.ConnectionProofs

open Sys2Proof Machine

/-! ### The Connection Unit at a slips edge and at a stroke -/

theorem setConn_cxu (s : State) (c : ConnState) : (s.setConn c).cxu = { s.cxu with state := c } := by
  rw [setConn_eq]
  simp

theorem setConn_str (s : State) (c : ConnState) : (s.setConn c).str = s.str := by
  rw [setConn_eq]
  simp

theorem setConn_ccu (s : State) (c : ConnState) : (s.setConn c).ccu = s.ccu := by
  rw [setConn_eq]
  simp

/-- A released edge faults an add in progress and a requested break (R33). -/
theorem connReleased_cxu (s : State) :
    s.connReleased.cxu =
      { s.cxu with
        state := match s.cxu.state with
          | .addPicked => .fault ⟨.slipsLost, .addPicked⟩
          | .addStabbed => .fault ⟨.slipsLost, .addStabbed⟩
          | .breakRequested => .fault ⟨.slipsLost, .breakRequested⟩
          | other => other } := by
  cases hstate : s.cxu.state <;> simp [State.connReleased, State.enterFault, hstate, setConn_cxu] <;> rw [← hstate]

theorem connReleased_str (s : State) : s.connReleased.str = s.str := by
  unfold State.connReleased
  split <;> simp [State.enterFault, setConn_str]

/-! ### The string at a slips edge -/

/-- What a slips edge leaves of the Connection Unit and the string (R33). -/
def connString (s : State) : ConnUnit × List Nat × List Rod := (s.cxu, s.str.list, s.str.rods)

theorem connString_of_rig {s t : State} (h : rig t = rig s) : connString t = connString s := by
  obtain ⟨_, _, hstr, hcxu, _⟩ := (rig_eq_iff s t).mp h
  simp [connString, hstr, hcxu]

theorem connString_takeDepth (s : State) (c : Nat) : connString (s.takeDepth c) = connString s := by
  by_cases h : c ≤ maxDepth <;> simp [State.takeDepth, State.depthValue, h, connString]

theorem connString_holeRule (s : State) : connString s.holeRule = connString s := by
  unfold State.holeRule
  split
  · exact (connString_of_rig (rig_reportAdvance _ _ _)).trans rfl
  · rfl

theorem connString_compareAtRelease (s : State) : connString s.compareAtRelease = connString s := by
  unfold State.compareAtRelease
  dsimp only
  split
  · rw [connString_holeRule, connString_takeDepth]
  · rfl

/-- The String Table Unit's part of a released edge comes first and leaves connection and string alone (R11, R13, R33). -/
theorem slipsReleasedEdge_eq (s : State) :
    ∃ t, s.slipsReleasedEdge = t.connReleased ∧ connString t = connString s := by
  refine ⟨_, rfl, ?_⟩
  split
  · dsimp only
    split
    · exact connString_compareAtRelease _
    · rfl
  · rfl

/-! ### Strokes -/

theorem connStroke_cxu (s : State) (p : PumpId) :
    (s.connStroke p).cxu =
      { s.cxu with
        state := match s.cxu.state with
          | .breakRequested => .fault ⟨.pumpedOnBreak p, .breakRequested⟩
          | .breakOpen => .fault ⟨.pumpedOnBreak p, .breakOpen⟩
          | other => other } := by
  cases hstate : s.cxu.state with
  | fault r => simp only [State.connStroke, hstate]; split <;> simp [← hstate]
  | _ => simp [State.connStroke, State.enterFault, hstate, setConn_cxu] <;> rw [← hstate]

theorem connStroke_str_ccu (s : State) (p : PumpId) : (s.connStroke p).str = s.str ∧ (s.connStroke p).ccu = s.ccu := by
  cases hstate : s.cxu.state with
  | fault r =>
    simp only [State.connStroke, hstate]
    split <;> exact ⟨rfl, rfl⟩
  | _ => simp [State.connStroke, State.enterFault, hstate, setConn_str, setConn_ccu]

/-- A stroke during a break fires CONNECTION_FAULT, then PUMP_INTERLOCK (R34, R35). -/
theorem connStroke_of_break {s : State} {p : PumpId} (h : s.cxu.state = .breakRequested ∨ s.cxu.state = .breakOpen) :
    s.connStroke p =
      (({ s with cxu := (s.connStroke p).cxu } : State).fire .connectionFault (.raw true)).fire .pumpInterlock
        (.pump p) := by
  rw [connStroke_cxu]
  rcases h with h | h <;> simp only [State.connStroke, h] <;>
    rw [enterFault_eq (by rw [h]; rfl) (by rw [h]; rfl)] <;> rfl

/-- Settles O25. -/
theorem whatFaultsAConnection : Obligations.WhatFaultsAConnection := by
  unfold Obligations.WhatFaultsAConnection
  refine ⟨fun s => ?_, fun s from_ hne hstate => ?_, fun s p => ⟨connStroke_cxu s p, (connStroke_str_ccu s p).1,
    (connStroke_str_ccu s p).2, connStroke_of_break, fun f hstate horigin => ?_⟩⟩
  · obtain ⟨t, hedge, hkept⟩ := slipsReleasedEdge_eq s
    obtain ⟨hcxu, hlist, hrods⟩ : t.cxu = s.cxu ∧ t.str.list = s.str.list ∧ t.str.rods = s.str.rods := by
      simpa [connString] using hkept
    rw [hedge, connReleased_str, connReleased_cxu, hcxu]
    exact ⟨rfl, hlist, hrods⟩
  · cases from_ with
    | breakOpen => exact absurd rfl hne
    | _ =>
      simp only [State.connReleased, hstate]
      exact enterFault_eq (by rw [hstate]; rfl) (by rw [hstate]; rfl)
  · have hwithdrawn : f.origin.withdrawn = true := by rcases horigin with h | h <;> rw [h] <;> rfl
    simp only [State.connStroke, hstate, hwithdrawn, if_true]

/-! ### The output lines (R159, R166, R169) -/

/-- With power and the load complete a pin is driven high exactly when its owner's level and its polarity agree. -/
theorem pinDrive_of_loaded {s : State} (hp : s.power = .on) (hl : s.loaded = true) (i : Fin 12) :
    s.pinDrive i =
      (s.outputLevel (s.flu.line i)).map fun o => (o == .asserted) == ((s.flu.line i).cfg.pol == .activeHigh) := by
  unfold State.pinDrive
  simp only [hp, hl, decide_true, Bool.and_true, if_true]
  congr 1
  funext o
  cases o <;> cases (s.flu.line i).cfg.pol <;> rfl

theorem asserted_iff (b : Bool) : ((if b then OutLevel.asserted else OutLevel.deasserted) == .asserted) = b := by
  cases b <;> rfl

/-- Settles O2. -/
theorem startupLoadDrivesOutputs : Obligations.StartupLoadDrivesOutputs := by
  unfold Obligations.StartupLoadDrivesOutputs
  intro s i hp
  refine ⟨?_, fun hl => ?_, ?_⟩
  · exact congrArg Host.Outcome.next (if_pos hp)
  · simp [State.pinDrive, hl]
  · refine (pinDrive_of_loaded (s := { s with loaded := true }) hp rfl i).trans ?_
    unfold State.outputLevel
    cases (s.flu.line i).cfg.fn <;> simp only [Option.map_some, Option.map_none, asserted_iff]

end Sys2Proof.ConnectionProofs
end

section
/-! The completion of a window (R50, R53, R56) and an accepted stroke, stage by stage (R44 to R46, R55, R84). -/

namespace Sys2Proof.ConnectionProofs

open Sys2Proof Machine

/-! ### The circulation state and the open interval -/

/-- The worst state of the open interval after a change of the circulation state from `was` to `c` (R99). -/
def worstAfter (iv : Option OpenInterval) (was c : CircState) : Option OpenInterval :=
  if c = was then iv else iv.map fun v => { v with worst := if v.worst.rank < c.rank then c else v.worst }

theorem worstAfter_self (iv : Option OpenInterval) (c : CircState) : worstAfter iv c c = iv := if_pos rfl

/-- A change of the circulation state, whether or not it is one. -/
theorem setCirc_eq (s : State) (c : CircState) :
    s.setCirc c =
      { s with
        ccu := { s.ccu with state := c }
        slu := { s.slu with openIv := worstAfter s.slu.openIv s.ccu.state c } } := by
  unfold State.setCirc worstAfter
  by_cases h : s.ccu.state = c
  · subst h
    simp
  · rw [if_neg h, if_neg (Ne.symm h)]
    rfl

/-- A firing does not see the Circulation Unit. -/
theorem fireLevel_modCcu (s : State) (f : CircUnit → CircUnit) (c : Cond) (was now : Bool) :
    (s.modCcu f).fireLevel c was now = (s.fireLevel c was now).modCcu f := by
  unfold State.fireLevel
  split <;> rfl

/-! ### Window completion -/

theorem judged_iff (c : CircState) :
    c.judged = true ↔ c = .circulating ∨ c = .partialLoss ∨ c = .totalLoss ∨ c = .gain := by
  cases c <;> simp [CircState.judged]

/-- The model decides as R53's table reads. -/
theorem decideState_eq (u : CircUnit) (f : Nat) :
    decideState u.state u.lastCand (candidate u.limits f) = stateAfter u f := by
  have hband : candidate u.limits f = bandOf u.limits f := rfl
  simp only [decideState, stateAfter, hband, judged_iff]

theorem decide_loss (c : CircState) :
    decide (c = .partialLoss ∨ c = .totalLoss) = (c == .partialLoss || c == .totalLoss) := by cases c <;> rfl

theorem decide_gain (c : CircState) : decide (c = .gain) = (c == .gain) := by cases c <;> rfl

/-- The returns fraction of the window as it stands (R50). -/
def windowFraction (u : CircUnit) : Nat := min 9999 (u.rw * 1000 / u.pw)

/-- The Circulation Unit after the window has been judged and restarted (R50, R53, R56). -/
def completedUnit (u : CircUnit) : CircUnit :=
  let f := windowFraction u
  let st := stateAfter u f
  { u with
    pw := 0, rw := 0, state := st, lastFrac := some f, lastCand := some (bandOf u.limits f)
    lost := if f < 1000 then min 1099511627775 (u.lost + (u.pw - u.rw)) else u.lost
    gain := if 1000 < f then min 1099511627775 (u.gain + (u.rw - u.pw)) else u.gain
    lossRaw := st == .partialLoss || st == .totalLoss, gainRaw := st == .gain }

/-- The state with another Circulation Unit, the open interval taking in the change of the circulation state. -/
def withCirc (s : State) (u : CircUnit) : State :=
  { s with ccu := u, slu := { s.slu with openIv := worstAfter s.slu.openIv s.ccu.state u.state } }

/-- A judged and restarted window: the unit, the open interval's worst state, then CIRC_LOSS and CIRC_GAIN (entry 52). -/
theorem judgeWindow_restartWindow (s : State) :
    s.judgeWindow.restartWindow =
      ((withCirc s (completedUnit s.ccu)).fireLevel .circLoss s.ccu.lossRaw (completedUnit s.ccu).lossRaw).fireLevel
        .circGain s.ccu.gainRaw (completedUnit s.ccu).gainRaw := by
  simp only [State.judgeWindow, State.restartWindow, setCirc_eq, decideState_eq, decide_loss, decide_gain,
    ← fireLevel_modCcu]
  rfl

/-! ### The pump at a stroke -/

theorem afterStroke_vol (p : Pump) : p.afterStroke.vol - p.vol = strokeIncrement p := Nat.add_sub_cancel_left _ _

/-- Volume and remainder account for displacement times efficiency exactly, short of the maximum (R45, R46). -/
theorem afterStroke_conserves (p : Pump) (h : p.vol + (p.const.disp.getD 0 * p.const.eff + p.rem) / 1000 ≤ maxVolume) :
    p.afterStroke.vol * 1000 + p.afterStroke.rem = p.vol * 1000 + p.rem + p.const.disp.getD 0 * p.const.eff := by
  simp only [Pump.afterStroke, strokeIncrement, strokeVolume]
  omega

/-- The volume is held at its maximum (R46). -/
theorem afterStroke_held (p : Pump) (hv : p.vol ≤ maxVolume)
    (h : maxVolume < p.vol + (p.const.disp.getD 0 * p.const.eff + p.rem) / 1000) : p.afterStroke.vol = maxVolume := by
  simp only [Pump.afterStroke, strokeIncrement, strokeVolume]
  omega

/-! ### Stages 1 to 3: the pump, its running, the window -/

/-- The first running pump takes circulation out of IDLE (R46, R52). -/
def startedState (u : CircUnit) : CircState := if u.anyRunning = false ∧ u.state = .idle then .starting else u.state

/-- The increment a stroke hands on (R46). -/
def strokeRise (u : CircUnit) (id : PumpId) : Nat := (u.pump id).afterStroke.vol - (u.pump id).vol

/-- The Circulation Unit after stages 1 to 3 (R44). -/
def pumpedUnit (u : CircUnit) (id : PumpId) : CircUnit :=
  { u.putPump id (u.pump id).afterStroke with state := startedState u, pw := u.pw + strokeRise u id }

/-- The state after stages 1 to 3 (R44). -/
def pumpedState (s : State) (id : PumpId) : State :=
  if s.ccu.anyRunning = true then withCirc s (pumpedUnit s.ccu id)
  else (withCirc s (pumpedUnit s.ccu id)).fire .pumpsRunning (.raw true)

@[simp] theorem putPump_state (u : CircUnit) (id : PumpId) (x : Pump) : (u.putPump id x).state = u.state := by
  cases id <;> rfl

/-- The stages of a stroke in the Circulation Unit (R44). -/
theorem circStroke_eq (s : State) (id : PumpId) :
    s.circStroke id = ((pumpedState s id).lift (strokeRise s.ccu id)).checkWindow := by
  have hrise : strokeIncrement (s.ccu.pump id) = strokeRise s.ccu id := (afterStroke_vol _).symm
  cases hrun : s.ccu.anyRunning with
  | true =>
    simp only [State.circStroke, hrun, hrise, pumpedState, withCirc, pumpedUnit, startedState, worstAfter_self,
      fireLevel_same, if_true, false_and, if_false, reduceCtorEq]
    cases id <;> rfl
  | false =>
    by_cases hidle : s.ccu.state = .idle <;>
      simp [State.circStroke, hrun, hrise, hidle, pumpedState, withCirc, pumpedUnit, startedState, worstAfter_self,
        setCirc_eq, fireLevel_of_ne] <;>
      cases id <;> rfl

/-! ### Stage 4: the lift counter and the Lag Unit -/

theorem lifts_iff (c : CircState) : c.lifts = true ↔ ¬ (c = .idle ∨ c = .totalLoss) := by
  cases c <;> simp [CircState.lifts]

/-- The lift counter rises in a lifting state, and nothing else of the rig changes (R55, R84). -/
theorem rig_lift (s : State) (inc : Nat) :
    rig (s.lift inc) =
      rig (s.modCcu fun u =>
        { u with lift := u.lift + (if u.state = .idle ∨ u.state = .totalLoss then 0 else inc) }) := by
  unfold State.lift
  split
  next h =>
    rw [rig_liftRose]
    simp [rig, (lifts_iff _).mp h.1]
  next h =>
    have hzero : (if s.ccu.state = .idle ∨ s.ccu.state = .totalLoss then 0 else inc) = 0 := by
      split
      next => rfl
      next hs => exact Nat.eq_zero_of_not_pos fun hinc => h ⟨(lifts_iff _).mpr hs, hinc⟩
    simp [rig, hzero]

/-- The state after stage 4 (R44). -/
def liftedState (s : State) (id : PumpId) : State := (pumpedState s id).lift (strokeRise s.ccu id)

/-- The Circulation Unit after stage 4, with the present W in force (R44, R49). -/
def liftedUnit (u : CircUnit) (id : PumpId) : CircUnit :=
  { pumpedUnit u id with
    windowInForce := u.limits.window
    lift := u.lift + (if startedState u = .idle ∨ startedState u = .totalLoss then 0 else strokeRise u id) }

theorem rig_liftedState (s : State) (id : PumpId) :
    rig (liftedState s id) =
      rig { s with ccu := { liftedUnit s.ccu id with windowInForce := s.ccu.windowInForce } } := by
  unfold liftedState
  rw [rig_lift]
  unfold pumpedState
  cases id <;> split <;> rfl

theorem liftedState_ccu (s : State) (id : PumpId) :
    (liftedState s id).ccu = { liftedUnit s.ccu id with windowInForce := s.ccu.windowInForce } :=
  congrArg Rig.ccu (rig_liftedState s id)

/-! ### Stage 5: the completion check -/

/-- A whole window completes under the present W (R49, R50). -/
theorem checkWindow_of_le {s : State} (h : s.ccu.limits.window ≤ s.ccu.pw) :
    s.checkWindow = (s.modCcu fun u => { u with windowInForce := u.limits.window }).judgeWindow.restartWindow := by
  unfold State.checkWindow State.completeWindow
  exact if_pos h

/-- Stage 5 of a stroke works on the state of stage 4 with the present W in force. -/
theorem liftedState_modWindow (s : State) (id : PumpId) :
    ((liftedState s id).modCcu fun u => { u with windowInForce := u.limits.window }) =
      { liftedState s id with ccu := liftedUnit s.ccu id } := by
  rw [State.modCcu, liftedState_ccu]
  cases id <;> rfl

/-- Short of a whole window the stroke ends with stage 4. -/
theorem circStroke_of_lt {s : State} {id : PumpId} (h : s.ccu.pw + strokeRise s.ccu id < s.ccu.limits.window) :
    s.circStroke id = { liftedState s id with ccu := liftedUnit s.ccu id } := by
  rw [circStroke_eq, ← liftedState_modWindow]
  refine State.checkWindow_of_lt (s := liftedState s id) ?_
  rw [liftedState_ccu]
  cases id <;> exact h

/-- A stroke that brings the window to W completes it in the state that stage 4 left (R50, R56). -/
theorem circStroke_of_le {s : State} {id : PumpId} (h : s.ccu.limits.window ≤ s.ccu.pw + strokeRise s.ccu id) :
    s.circStroke id =
      ((withCirc { liftedState s id with ccu := liftedUnit s.ccu id } (completedUnit (liftedUnit s.ccu id))).fireLevel
        .circLoss s.ccu.lossRaw (completedUnit (liftedUnit s.ccu id)).lossRaw).fireLevel .circGain s.ccu.gainRaw
          (completedUnit (liftedUnit s.ccu id)).gainRaw := by
  have hwindow : (liftedState s id).ccu.limits.window ≤ (liftedState s id).ccu.pw := by
    rw [liftedState_ccu]
    cases id <;> exact h
  have hcheck : s.circStroke id = (liftedState s id).checkWindow := circStroke_eq s id
  rw [hcheck, checkWindow_of_le hwindow, liftedState_modWindow, judgeWindow_restartWindow]
  cases id <;> rfl

/-- A stroke changes the Circulation Unit alone of the rig. -/
theorem rig_circStroke (s : State) (id : PumpId) :
    rig (s.circStroke id) = rig { s with ccu := (s.circStroke id).ccu } := by
  have hlifted := rig_liftedState s id
  obtain ⟨htick, hflu, hstr, hcxu, _⟩ := (rig_eq_iff _ _).mp hlifted
  rcases Nat.lt_or_ge (s.ccu.pw + strokeRise s.ccu id) s.ccu.limits.window with h | h
  · rw [circStroke_of_lt h]
    simp [rig, htick, hflu, hstr, hcxu]
  · rw [circStroke_of_le h]
    simp [rig, withCirc, htick, hflu, hstr, hcxu]

/-- The pump of the stroke is the pumped one, and the other as it was (R44). -/
theorem circStroke_pump (s : State) (id other : PumpId) :
    (s.circStroke id).ccu.pump other = (s.ccu.putPump id (s.ccu.pump id).afterStroke).pump other := by
  rcases Nat.lt_or_ge (s.ccu.pw + strokeRise s.ccu id) s.ccu.limits.window with h | h
  · rw [circStroke_of_lt h]
    cases other <;> rfl
  · rw [circStroke_of_le h]
    cases other <;> simp <;> rfl

/-- Settles O29. -/
theorem strokeConservesVolume : Obligations.StrokeConservesVolume := by
  unfold Obligations.StrokeConservesVolume
  refine ⟨fun p => ⟨afterStroke_conserves p, afterStroke_held p, Nat.le_add_right _ _, ?_, Nat.mod_lt _ (by decide), rfl,
    rfl, rfl, rfl⟩, fun s id => rfl, fun s id => ?_⟩
  · rfl
  obtain ⟨htick, hflu, hstr, hcxu, _⟩ := (rig_eq_iff _ _).mp (rig_circStroke s id)
  refine ⟨(circStroke_pump s id id).trans (CircUnit.pump_putPump_same _ _ _),
    fun other hne => (circStroke_pump s id other).trans (CircUnit.pump_putPump_ne _ _ hne), fun hlt => ?_, fun hle => ?_,
    hstr, hcxu, hflu, htick⟩
  · have h := circStroke_of_lt hlt
    exact ⟨congrArg State.ccu h, h⟩
  · have h := circStroke_of_le hle
    have hfull : (s.circStroke id).ccu = completedUnit (liftedUnit s.ccu id) := by
      rw [h]
      simp [withCirc]
    refine ⟨?_, ?_⟩
    · rw [hfull]
      cases id <;> rfl
    · rw [h]
      cases id <;> rfl

end Sys2Proof.ConnectionProofs
end

section
/-! The one-second tick (R31, R47, R54, R99, R109, R110, R112): the count, the second that has ended, the pump countdowns and
the stop of circulation. -/

namespace Sys2Proof.ConnectionProofs

open Sys2Proof Machine

/-! ### The count and the activity (R31, R110) -/

theorem countTick_of_lt {s : State} (h : s.tick < 4294967295) : s.countTick = { s with tick := s.tick + 1 } := if_pos h

theorem within_iff (s : State) (at_ : Option Nat) (hold : Nat) :
    s.within at_ hold = true ↔ ∃ t, at_ = some t ∧ s.tick - t ≤ hold := by
  cases at_ <;> simp [State.within]

/-- The activity by the first test of R110 that holds, in the statement's words: of the second that ends with this tick. -/
def IsActivity (s : State) (a : Activity) : Prop :=
  let since (at_ : Option Nat) (hold : Nat) : Prop := ∃ t, at_ = some t ∧ s.tick - t ≤ hold
  match s.jmu.downtime with
  | some x => (x.kind = .rig → a = .downtimeRig) ∧ (x.kind = .client → a = .downtimeClient)
  | none =>
    if s.ccu.state = .totalLoss ∨ s.ccu.state = .gain then a = .lossControl
    else (since s.jmu.lastAdvance s.jmu.drillHold → a = .drilling)
      ∧ (¬ since s.jmu.lastAdvance s.jmu.drillHold →
          ((s.cxu.state ≠ .free ∨ since (s.cxu.last.map (·.time)) s.jmu.tripHold) → a = .tripping)
          ∧ (¬ (s.cxu.state ≠ .free ∨ since (s.cxu.last.map (·.time)) s.jmu.tripHold) →
              a = if s.ccu.state = .idle then .standby else .circulating))

theorem activity_eq {s : State} {a : Activity} (h : IsActivity s a) : s.activity = a := by
  unfold IsActivity at h
  unfold State.activity
  cases hdown : s.jmu.downtime with
  | some x =>
    obtain ⟨kind, start⟩ := x
    simp only [hdown] at h
    cases kind with
    | rig => exact (h.1 rfl).symm
    | client => exact (h.2 rfl).symm
  | none =>
    simp only [hdown, ← within_iff] at h
    dsimp only
    split
    next hloss => rw [if_pos hloss] at h; exact h.symm
    next hloss =>
    rw [if_neg hloss] at h
    obtain ⟨hdrilling, hother⟩ := h
    split
    next hd => exact (hdrilling hd).symm
    next hd =>
    obtain ⟨htripping, hrest⟩ := hother hd
    split
    next ht => exact (htripping ht).symm
    next ht =>
      rw [hrest ht]
      split <;> simp_all

/-! ### The second that has ended (R99, R109, R112) -/

/-- A tick is metered while the job is OPEN and its clock below its maximum (R109). -/
@[reducible] def Counts (u : JobUnit) : Prop := u.state = .opened ∧ u.clock < max32

/-- The Job Meter Unit after a second of activity `a` (R112). -/
def meteredJob (u : JobUnit) (a : Activity) : JobUnit :=
  { u with clock := u.clock + 1, lastActivity := some a, meters := bump u.meters a.code (fun v => v + 1) }

/-- A counted second goes to the clock, to its activity's meter and, as DRILLING, to the open interval. -/
theorem meterSecond_eq (s : State) :
    s.meterSecond =
      { s with
        jmu := if Counts s.jmu then meteredJob s.jmu s.activity else s.jmu
        slu := { s.slu with openIv := s.slu.openIv.map fun v =>
          { v with seconds := v.seconds + (if Counts s.jmu ∧ s.activity = .drilling then 1 else 0) } } } := by
  unfold State.meterSecond
  by_cases hc : Counts s.jmu
  · rw [if_pos hc, if_pos hc]
    dsimp only
    by_cases hd : s.activity = .drilling
    · rw [if_pos hd]
      simp only [if_pos (And.intro hc hd)]
      rfl
    · rw [if_neg hd]
      simp only [if_neg (fun h : Counts s.jmu ∧ _ => hd h.2), Nat.add_zero, Option.map_id']
      rfl
  · rw [if_neg hc, if_neg hc]
    simp only [if_neg (fun h : Counts s.jmu ∧ s.activity = .drilling => hc h.1), Nat.add_zero, Option.map_id']

/-- One meter rises by one, that of the activity. -/
theorem meteredJob_meters (u : JobUnit) (a b : Activity) :
    ((meteredJob u a).meters[b.code]?).getD 0 = (u.meters[b.code]?).getD 0 + (if b = a then 1 else 0) := by
  cases a <;> cases b <;> simp [meteredJob, bump, Activity.code]

/-! ### The pump countdowns (R47) -/

/-- Does a pump run on after this tick? -/
def runsOn (p : Pump) : Bool := p.running && p.countdown != 1

theorem tick_eq (p : Pump) : p.tick = { p with countdown := p.countdown - 1, running := runsOn p } := by
  unfold Pump.tick runsOn
  split
  next h0 => cases p; simp_all
  next h0 =>
  split
  next h1 => simp [h1]
  next h1 => simp [h1]

/-- Both pumps after a tick. -/
def tickedUnit (u : CircUnit) : CircUnit := { u with p1 := u.p1.tick, p2 := u.p2.tick }

theorem tickedUnit_pump (u : CircUnit) (p : PumpId) :
    (tickedUnit u).pump p = { u.pump p with countdown := (u.pump p).countdown - 1, running := runsOn (u.pump p) } := by
  cases p <;> exact tick_eq _

/-- Does the last running pump stop at this tick? (R54.) -/
def stops (u : CircUnit) : Bool := u.anyRunning && !runsOn (u.pump .one) && !runsOn (u.pump .two)

theorem stops_iff (u : CircUnit) :
    stops u = true ↔ u.anyRunning = true ∧ runsOn (u.pump .one) = false ∧ runsOn (u.pump .two) = false := by
  simp [stops, and_assoc]

/-- Is a partial window judged at the stop? (R54.) -/
def stopJudged (u : CircUnit) : Bool := stops u && decide (u.windowInForce ≤ u.pw * 4)

theorem stopJudged_iff (u : CircUnit) : stopJudged u = true ↔ stops u = true ∧ u.windowInForce ≤ u.pw * 4 := by
  simp [stopJudged]

theorem tickedUnit_anyRunning (u : CircUnit) :
    (tickedUnit u).anyRunning = (runsOn (u.pump .one) || runsOn (u.pump .two)) := by
  simp only [CircUnit.anyRunning, tickedUnit, tick_eq]
  rfl

/-- A tick starts no pump: without a stop the running of pumps is as it was. -/
theorem tickedUnit_anyRunning_of_not_stops {u : CircUnit} (h : stops u = false) :
    (tickedUnit u).anyRunning = u.anyRunning := by
  rw [tickedUnit_anyRunning]
  cases hrun : u.anyRunning with
  | true => simpa [stops, hrun, imp_iff_not_or] using h
  | false =>
    obtain ⟨h1, h2⟩ : u.p1.running = false ∧ u.p2.running = false := by simpa [CircUnit.anyRunning] using hrun
    simp [runsOn, CircUnit.pump, h1, h2]

/-! ### The stop of circulation (R54) -/

/-- The Circulation Unit after a stop: the window discarded, IDLE. -/
def stoppedUnit (u : CircUnit) : CircUnit := { u with pw := 0, rw := 0, state := .idle, lastCand := none }

/-- Short of a quarter of the W in force nothing is judged. -/
theorem stopCirculation_of_short {s : State} (h : ¬ s.ccu.windowInForce ≤ s.ccu.pw * 4) :
    s.stopCirculation = withCirc s (stoppedUnit s.ccu) := by
  simp only [State.stopCirculation, h, if_false, setCirc_eq]
  rfl

/-- From a quarter on the window is judged first, its conditions fire, and the open interval takes in both changes. -/
theorem stopCirculation_of_judged {s : State} (h : s.ccu.windowInForce ≤ s.ccu.pw * 4) :
    s.stopCirculation =
      ((withCirc (withCirc s (completedUnit s.ccu)) (stoppedUnit (completedUnit s.ccu))).fireLevel
        .circLoss s.ccu.lossRaw (completedUnit s.ccu).lossRaw).fireLevel .circGain s.ccu.gainRaw
          (completedUnit s.ccu).gainRaw := by
  simp only [State.stopCirculation, h, if_true, judgeWindow_restartWindow, setCirc_eq]
  unfold State.fireLevel
  split <;> split <;> rfl

/-! ### The pumps and the stop together -/

/-- The Circulation Unit after a tick. -/
def tickUnit (u : CircUnit) : CircUnit :=
  if stopJudged u then stoppedUnit (completedUnit (tickedUnit u))
  else if stops u then stoppedUnit (tickedUnit u)
  else tickedUnit u

/-- The worst state of the open interval after a tick that found it `w` (R99). -/
def tickWorst (u : CircUnit) (w : CircState) : CircState :=
  let worse (x y : CircState) : CircState := if x.rank < y.rank then y else x
  let st := (completedUnit u).state
  let w := if stopJudged u ∧ st ≠ u.state then worse w st else w
  let before := if stopJudged u then st else u.state
  if stops u ∧ before ≠ .idle then worse w .idle else w

/-- What a tick fires with the Circulation Unit as it was before (R54, R56; entries 20 and 52). -/
def tickFirings (u : CircUnit) (s : State) : State :=
  if stops u then
    let v := s.fire .pumpsRunning (.raw false)
    if stopJudged u then
      (v.fireLevel .circLoss u.lossRaw (completedUnit u).lossRaw).fireLevel .circGain u.gainRaw (completedUnit u).gainRaw
    else v
  else s

/-- The pumps' part of a tick, before its firings. -/
def tickCirc (s : State) : State :=
  { s with
    ccu := tickUnit s.ccu
    slu := { s.slu with openIv := s.slu.openIv.map fun v => { v with worst := tickWorst s.ccu v.worst } } }

theorem tickFirings_eq (u : CircUnit) (s : State) : tickFirings u s = { s with liu := (tickFirings u s).liu } := by
  unfold tickFirings
  split
  · dsimp only
    split
    · rw [State.fireLevel_eq, State.fireLevel_eq]
      rfl
    · rfl
  · rfl

theorem pumpTick_of_stops {s : State} (h : stops s.ccu = true) :
    s.pumpTick = ((s.modCcu tickedUnit).fire .pumpsRunning (.raw false)).stopCirculation := by
  obtain ⟨hwas, h1, h2⟩ := (stops_iff _).mp h
  have hpump : s.pumpTick = (s.modCcu tickedUnit).afterPumps s.ccu.anyRunning := rfl
  have hrest : (tickedUnit s.ccu).anyRunning = false := by simp [tickedUnit_anyRunning, h1, h2]
  rw [hpump, hwas]
  simp [State.afterPumps, hrest, fireLevel_of_ne]

theorem pumpTick_of_not_stops {s : State} (h : stops s.ccu = false) : s.pumpTick = s.modCcu tickedUnit := by
  have hpump : s.pumpTick = (s.modCcu tickedUnit).afterPumps s.ccu.anyRunning := rfl
  rw [hpump]
  simp [State.afterPumps, tickedUnit_anyRunning_of_not_stops h]

theorem worstAfter_eq_map (iv : Option OpenInterval) (was c : CircState) :
    worstAfter iv was c =
      iv.map fun v => { v with worst := if c = was then v.worst else if v.worst.rank < c.rank then c else v.worst } := by
  unfold worstAfter
  split
  · exact Option.map_id'.symm
  · rfl

theorem stopJudged_of_not_stops {u : CircUnit} (h : stops u = false) : stopJudged u = false := by simp [stopJudged, h]

/-- Without a stop the worst state stays. -/
theorem tickCirc_of_not_stops {s : State} (h : stops s.ccu = false) : tickCirc s = s.modCcu tickedUnit := by
  have hworst : ∀ w, tickWorst s.ccu w = w := fun w => by simp [tickWorst, h, stopJudged_of_not_stops h]
  simp only [tickCirc, tickUnit, h, stopJudged_of_not_stops h, hworst, Option.map_id']
  rfl

/-- At a stop the worst state takes in the change to IDLE. -/
theorem tickCirc_of_short {s : State} (h : stops s.ccu = true) (hnot : stopJudged s.ccu = false) :
    tickCirc s = withCirc (s.modCcu tickedUnit) (stoppedUnit (tickedUnit s.ccu)) := by
  have hworst : ∀ w, tickWorst s.ccu w =
      if CircState.idle = s.ccu.state then w else if w.rank < CircState.idle.rank then .idle else w := fun w => by
    simp [tickWorst, h, hnot, eq_comm (a := CircState.idle)]
  simp only [tickCirc, tickUnit, h, hnot, hworst, withCirc, worstAfter_eq_map]
  rfl

/-- At a judged stop it takes in the judged state, then the change to IDLE. -/
theorem tickCirc_of_judged {s : State} (h : stopJudged s.ccu = true) :
    tickCirc s =
      withCirc (withCirc (s.modCcu tickedUnit) (completedUnit (tickedUnit s.ccu)))
        (stoppedUnit (completedUnit (tickedUnit s.ccu))) := by
  have hstops := ((stopJudged_iff _).mp h).1
  have hworst : ∀ w, tickWorst s.ccu w =
      let st := (completedUnit s.ccu).state
      let w := if st = s.ccu.state then w else if w.rank < st.rank then st else w
      if CircState.idle = st then w else if w.rank < CircState.idle.rank then .idle else w := fun w => by
    simp [tickWorst, h, hstops, eq_comm (a := CircState.idle)]
  simp only [tickCirc, tickUnit, h, if_true, hworst, withCirc, worstAfter_eq_map, Option.map_map]
  rfl

/-- The pumps' part of a tick: without a stop, at a stop, and at a stop with a judged window (R47, R54). -/
theorem pumpTick_eq (s : State) : s.pumpTick = tickFirings s.ccu (tickCirc s) := by
  cases hstops : stops s.ccu with
  | false => rw [pumpTick_of_not_stops hstops, tickFirings, hstops, tickCirc_of_not_stops hstops]; rfl
  | true =>
    rw [pumpTick_of_stops hstops, tickFirings, hstops]
    cases hjudged : stopJudged s.ccu with
    | true =>
      have hquarter := ((stopJudged_iff _).mp hjudged).2
      rw [tickCirc_of_judged hjudged,
        stopCirculation_of_judged (s := (s.modCcu tickedUnit).fire .pumpsRunning (.raw false)) hquarter]
      rfl
    | false =>
      have hshort : ¬ s.ccu.windowInForce ≤ s.ccu.pw * 4 := by simpa [stopJudged, hstops] using hjudged
      rw [tickCirc_of_short hstops hjudged,
        stopCirculation_of_short (s := (s.modCcu tickedUnit).fire .pumpsRunning (.raw false)) hshort]
      rfl

/-! ### The whole tick -/

theorem tickUnit_of_not_stops {u : CircUnit} (h : stops u = false) : tickUnit u = tickedUnit u := by
  simp [tickUnit, h, stopJudged_of_not_stops h]

theorem tickUnit_of_short {u : CircUnit} (h : stops u = true) (hnot : stopJudged u = false) :
    tickUnit u = stoppedUnit (tickedUnit u) := by simp [tickUnit, h, hnot]

theorem tickUnit_of_judged {u : CircUnit} (h : stopJudged u = true) :
    tickUnit u = stoppedUnit (completedUnit (tickedUnit u)) := by simp [tickUnit, h]

/-- A stop touches no pump. -/
theorem tickUnit_pump (u : CircUnit) (p : PumpId) :
    (tickUnit u).pump p = { u.pump p with countdown := (u.pump p).countdown - 1, running := runsOn (u.pump p) } := by
  rw [← tickedUnit_pump]
  unfold tickUnit
  split
  · cases p <;> rfl
  · split <;> rfl

/-- `tickWorst` under any wording of the two conditions. -/
theorem tickWorst_eq (u : CircUnit) (w : CircState) {J S : Prop} [Decidable J] [Decidable S]
    (hJ : stopJudged u = true ↔ J) (hS : stops u = true ↔ S) :
    tickWorst u w =
      let worse (x y : CircState) : CircState := if x.rank < y.rank then y else x
      let st := (completedUnit u).state
      let w := if J ∧ st ≠ u.state then worse w st else w
      let before := if J then st else u.state
      if S ∧ before ≠ .idle then worse w .idle else w := by
  by_cases hj : J <;> by_cases hs : S <;> simp [tickWorst, hJ, hS, hj, hs]

/-- The state as R110 judges the second: the count has risen, the time come to the whole second (entry 6). -/
def countedState (s : State) : State := { s with tick := s.tick + 1, now := max s.now ((s.tick + 1) * 10000) }

/-- The state after a tick, before its firings. -/
def tickedState (s : State) (a : Activity) : State :=
  { countedState s with
    jmu := if Counts s.jmu then meteredJob s.jmu a else s.jmu
    ccu := tickUnit s.ccu
    slu := { s.slu with openIv := s.slu.openIv.map fun v =>
      { v with seconds := v.seconds + (if Counts s.jmu ∧ a = .drilling then 1 else 0)
               worst := tickWorst s.ccu v.worst } } }

/-- One tick below the end of the count: its second metered, its pumps, then its firings (R109). -/
theorem timeTick_eq {s : State} {a : Activity} (h : s.tick < 4294967295) (ha : IsActivity (countedState s) a) :
    s.timeTick = tickFirings s.ccu (tickedState s a) := by
  have hcounted : s.timeTick = (countedState s).meterSecond.pumpTick := by
    unfold State.timeTick
    rw [countTick_of_lt h]
    rfl
  rw [hcounted, meterSecond_eq, activity_eq ha, pumpTick_eq]
  simp only [tickCirc, Option.map_map]
  rfl

/-- What the Job Meter Unit holds after a tick (R109, R112). -/
theorem tickedState_jmu (s : State) (a : Activity) :
    (¬ Counts s.jmu → (tickedState s a).jmu = s.jmu)
      ∧ (Counts s.jmu → (tickedState s a).jmu = meteredJob s.jmu a) :=
  ⟨fun h => if_neg h, fun h => if_pos h⟩

/-- What a tick fires, case by case. -/
theorem tickFirings_cases (u : CircUnit) (s : State) :
    (stops u = false → tickFirings u s = s)
      ∧ (stops u = true → stopJudged u = false → tickFirings u s = s.fire .pumpsRunning (.raw false))
      ∧ (stopJudged u = true → tickFirings u s =
          ((s.fire .pumpsRunning (.raw false)).fireLevel .circLoss u.lossRaw (completedUnit u).lossRaw).fireLevel .circGain
            u.gainRaw (completedUnit u).gainRaw) := by
  refine ⟨fun h => by simp [tickFirings, h], fun h hnot => by simp [tickFirings, h, hnot], fun h => ?_⟩
  have hstops := ((stopJudged_iff u).mp h).1
  simp [tickFirings, h, hstops]

/-- Settles O32. -/
theorem tickResult : Obligations.TickResult := by
  unfold Obligations.TickResult
  intro s hp htick since a ha counts runs stopping judged f st loss gain worse worst
  have hexec : exec .timeBaseTick s = .next s.timeTick := congrArg Host.Outcome.next (if_pos hp)
  rw [hexec, timeTick_eq htick ha]
  obtain ⟨links, hlinks⟩ : ∃ l, tickFirings s.ccu (tickedState s a) = { tickedState s a with liu := l } :=
    ⟨_, tickFirings_eq _ _⟩
  have hstops : stops s.ccu = true ↔ stopping := stops_iff s.ccu
  have hjudged : stopJudged s.ccu = true ↔ judged := (stopJudged_iff s.ccu).trans (and_congr_left' hstops)
  have hnotStops : ¬ stopping → stops s.ccu = false := fun h => Bool.eq_false_iff.mpr (mt hstops.mp h)
  have hnotJudged : ¬ judged → stopJudged s.ccu = false := fun h => Bool.eq_false_iff.mpr (mt hjudged.mp h)
  obtain ⟨hidleJob, hmeteredJob⟩ := tickedState_jmu s a
  obtain ⟨hquiet, hshort, hfull⟩ := tickFirings_cases s.ccu (tickedState s a)
  rw [hlinks] at hquiet hshort hfull ⊢
  refine ⟨_, rfl, rfl, rfl, hidleJob, fun hc => ⟨?_, fun b => ?_⟩, ?_, tickUnit_pump s.ccu, fun hs => ?_, fun hs hj => ?_,
    fun hj => ?_, ⟨fun hs => hquiet (hnotStops hs), fun hs hj => hshort (hstops.mpr hs) (hnotJudged hj),
      fun hj => hfull (hjudged.mpr hj)⟩, rfl, rfl, rfl, rfl, rfl, rfl⟩
  · simp only [hmeteredJob hc]
    rfl
  · simp only [hmeteredJob hc]
    exact meteredJob_meters s.jmu a b
  · refine congrArg (fun g => { s.slu with openIv := s.slu.openIv.map g }) (funext fun v => ?_)
    rw [tickWorst_eq s.ccu v.worst hjudged hstops]
    rfl
  · simp only [tickedState, tickUnit_of_not_stops (hnotStops hs)]
    rfl
  · simp only [tickedState, tickUnit_of_short (hstops.mpr hs) (hnotJudged hj)]
    rfl
  · simp only [tickedState, tickUnit_of_judged (hjudged.mpr hj)]
    rfl

end Sys2Proof.ConnectionProofs
end

section
/-! Settings of the Circulation Unit and its cold start (R43, R49, R51, R59, R75, R94, R155). -/

namespace Sys2Proof.CirculationProofs

open Sys2Proof Machine ConnectionProofs

/-! ### Cold start -/

/-- Settles O4: each unit is written out by `State.cold`. -/
theorem coldStartCirculationAndLag : Obligations.ColdStartCirculationAndLag := by
  unfold Obligations.ColdStartCirculationAndLag
  intro st torn decay s
  refine ⟨_, rfl, ⟨rfl, rfl, rfl, rfl, rfl, rfl, rfl⟩, fun p => ?_, rfl, rfl, rfl, rfl, rfl, rfl, rfl, rfl, rfl, rfl, rfl,
    rfl, rfl, rfl, rfl, rfl, rfl, rfl⟩
  cases p <;> exact ⟨rfl, rfl, rfl, rfl, rfl⟩

/-! ### Values brought in -/

theorem bringIn_eq_max_min {lo hi : Nat} (h : lo ≤ hi) (v : Nat) : bringIn lo hi v = max lo (min v hi) := by
  unfold bringIn
  omega

/-- A value is left as it was exactly if it lies in its range. -/
theorem bringIn_eq_iff {lo hi : Nat} (h : lo ≤ hi) (v : Nat) : bringIn lo hi v = v ↔ lo ≤ v ∧ v ≤ hi := by
  unfold bringIn
  omega

/-- The status of a setting, in the words of the statements: OK if nothing was brought in. -/
theorem okOr_eq_ite {clamped taken : Prop} [Decidable clamped] [Decidable taken] (h : taken ↔ ¬ clamped) :
    okOr (decide clamped) = if taken then .ok else .clamped := by
  by_cases hc : clamped <;> simp [okOr, h, hc]

/-! ### Set Pump -/

theorem pumpConstOf_eq (disp eff timeout : Nat) :
    pumpConstOf disp eff timeout =
      { disp := some (max 100 (min disp 60000)), eff := max 500 (min eff 1000), timeout := max 2 (min timeout 30) } := by
  simp only [pumpConstOf, bringIn_eq_max_min (by decide : 100 ≤ 60000), bringIn_eq_max_min (by decide : 500 ≤ 1000),
    bringIn_eq_max_min (by decide : 2 ≤ 30)]

/-- The constants are as carried exactly if each lies in its range (R43). -/
theorem pumpConstOf_taken (disp eff timeout : Nat) :
    (100 ≤ disp ∧ disp ≤ 60000 ∧ 500 ≤ eff ∧ eff ≤ 1000 ∧ 2 ≤ timeout ∧ timeout ≤ 30) ↔
      ¬ ((pumpConstOf disp eff timeout).disp ≠ some disp ∨ (pumpConstOf disp eff timeout).eff ≠ eff
        ∨ (pumpConstOf disp eff timeout).timeout ≠ timeout) := by
  simp only [pumpConstOf, ne_eq, Option.some.injEq, bringIn_eq_iff (by decide : 100 ≤ 60000),
    bringIn_eq_iff (by decide : 500 ≤ 1000), bringIn_eq_iff (by decide : 2 ≤ 30)]
  omega

theorem ofNumber_of_other {n : Nat} (h1 : n ≠ 1) (h2 : n ≠ 2) : PumpId.ofNumber n = none := by
  unfold PumpId.ofNumber
  split
  · exact absurd rfl h1
  · exact absurd rfl h2
  · rfl

/-- An accepted Set Pump writes the constants, and for pump 1 the configuration mark (R43, R155). -/
theorem ownSetPump_of_some {n : Nat} {p : PumpId} (h : PumpId.ofNumber n = some p) (disp eff timeout : Nat) (s : State) :
    ownSetPump n disp eff timeout s =
      let t := s.modCcu fun u => u.putPump p { u.pump p with const := pumpConstOf disp eff timeout }
      say (if 100 ≤ disp ∧ disp ≤ 60000 ∧ 500 ≤ eff ∧ eff ≤ 1000 ∧ 2 ≤ timeout ∧ timeout ≤ 30 then .ok else .clamped)
        (if p = .one then t.mark fun m => { m with pump1 := true } else t) := by
  unfold ownSetPump
  rw [h]
  simp only [okOr_eq_ite (pumpConstOf_taken disp eff timeout)]

/-- The marks an accepted request sets, and the firing of UNCONFIGURED, in the words of the statement (R155). -/
theorem mark_eq (s : State) (f : Marks → Marks) :
    s.mark f =
      (let m := f s.rst.marks
       let still := s.rst.unconfigured && !(m.pump1 && m.rodClass && m.sections && m.tariffs)
       let t : State := { s with rst := { s.rst with marks := m, unconfigured := still } }
       if s.rst.unconfigured = true ∧ still = false then t.fire .unconfigured (.raw false) else t) := by
  unfold State.mark
  cases hun : s.rst.unconfigured with
  | false => exact fireLevel_same _ _ _
  | true =>
    dsimp only
    cases hstill : !((f s.rst.marks).pump1 && (f s.rst.marks).rodClass && (f s.rst.marks).sections
        && (f s.rst.marks).tariffs) with
    | false => rfl
    | true => exact fireLevel_same _ _ _

/-! ### Set Circulation Limits -/

theorem limitsOf_eq (g f t w p : Nat) :
    limitsOf g f t w p =
      { gainT := max 1050 (min g 2000), fullT := max 200 (min f 1000), totalT := max 50 (min t 900)
        window := max 50000 (min w 5000000), pulse := max 10 (min p 10000) } := by
  simp only [limitsOf, bringIn_eq_max_min (by decide : 1050 ≤ 2000), bringIn_eq_max_min (by decide : 200 ≤ 1000),
    bringIn_eq_max_min (by decide : 50 ≤ 900), bringIn_eq_max_min (by decide : 50000 ≤ 5000000),
    bringIn_eq_max_min (by decide : 10 ≤ 10000)]

/-- Settles O28: Set Pump by the pump its number names, the marks by `mark_eq`, Set Circulation Limits by the order of its
thresholds. -/
theorem settingPumpsAndLimits : Obligations.SettingPumpsAndLimits := by
  unfold Obligations.SettingPumpsAndLimits
  refine ⟨fun ln tag pump disp eff timeout s h => ?_, mark_eq, fun ln tag g f t w p s h => ?_⟩
  · have answered : ∀ {st u}, ownSetPump pump disp eff timeout s = say st u →
        exec (.setPump ln tag pump disp eff timeout) s = .next (u.sayOn ln 26 tag st) := request_of_say h tag
    rw [← pumpConstOf_eq]
    dsimp only
    split
    next h1 => exact answered (ownSetPump_of_some (p := .one) (by rw [h1]; rfl) disp eff timeout s)
    next h1 =>
    split
    next h2 => exact answered (ownSetPump_of_some (p := .two) (by rw [h2]; rfl) disp eff timeout s)
    next h2 => exact answered (by unfold ownSetPump; rw [ofNumber_of_other h1 h2])
  · have answered : ∀ {st u}, ownSetCirculationLimits g f t w p s = say st u →
        exec (.setCirculationLimits ln tag g f t w p) s = .next (u.sayOn ln 27 tag st) := request_of_say h tag
    rw [← limitsOf_eq]
    dsimp only
    split
    next horder =>
      refine answered ((if_pos horder).trans ?_)
      rw [okOr_eq_ite (taken := (limitsOf g f t w p).gainT = g ∧ (limitsOf g f t w p).fullT = f
        ∧ (limitsOf g f t w p).totalT = t ∧ (limitsOf g f t w p).window = w ∧ (limitsOf g f t w p).pulse = p)]
      · rfl
      · rw [not_not, CircLimits.mk.injEq]
    next horder => exact answered (if_neg horder)

end Sys2Proof.CirculationProofs
end

section
/-! A window completion as a command, and the timeout of a pump (R47, R50, R53, R54, R56, R99). -/

namespace Sys2Proof.CirculationProofs

open Sys2Proof Machine ConnectionProofs

/-- Settles O30: the judged window of `judgeWindow_restartWindow`. -/
theorem windowCompletes : Obligations.WindowCompletes := by
  unfold Obligations.WindowCompletes
  intro s hp
  have hexec : exec .windowCompletion s = .next s.completeWindow := congrArg Host.Outcome.next (if_pos hp)
  refine ⟨fun hshort => hexec.trans (congrArg _ (if_neg (Nat.not_le.mpr hshort))), fun hfull => hexec.trans ?_⟩
  have hjudged : s.completeWindow = s.judgeWindow.restartWindow := if_pos hfull
  rw [hjudged, judgeWindow_restartWindow]
  rfl

/-! ### A pump's timeout -/

/-- A pump that is not running at 0 has no deadline to reach (entry 8). -/
theorem pumpStops_of_not {s : State} {p : PumpId}
    (h : ¬ ((s.ccu.pump p).running = true ∧ (s.ccu.pump p).countdown = 0)) : s.pumpStops p = s := if_neg h

/-- While another pump runs the pump stops and nothing else happens (R47). -/
theorem pumpStops_of_other_runs {s : State} {p : PumpId} {u : CircUnit}
    (hdue : (s.ccu.pump p).running = true ∧ (s.ccu.pump p).countdown = 0)
    (hu : u = s.ccu.putPump p { s.ccu.pump p with running := false }) (hruns : u.anyRunning = true) :
    s.pumpStops p = { s with ccu := u } := by
  have hwas : s.ccu.anyRunning = true := by cases p <;> simp [CircUnit.anyRunning, ← hdue.1, CircUnit.pump]
  subst hu
  refine (if_pos hdue).trans ?_
  simp [State.afterPumps, hruns, hwas]
  rfl

/-- When the last running pump stops, PUMPS_RUNNING fires and circulation stops (R47, R54; entry 20). -/
theorem pumpStops_of_last {s : State} {p : PumpId} {u : CircUnit}
    (hdue : (s.ccu.pump p).running = true ∧ (s.ccu.pump p).countdown = 0)
    (hu : u = s.ccu.putPump p { s.ccu.pump p with running := false }) (hrest : u.anyRunning = false) :
    s.pumpStops p = (({ s with ccu := u } : State).fire .pumpsRunning (.raw false)).stopCirculation := by
  have hwas : s.ccu.anyRunning = true := by cases p <;> simp [CircUnit.anyRunning, ← hdue.1, CircUnit.pump]
  subst hu
  refine (if_pos hdue).trans ?_
  simp [State.afterPumps, hrest, hwas, fireLevel_of_ne]
  rfl

/-- A stop without a judged window takes IDLE alone into the open interval's worst state (R54, R99). -/
theorem withCirc_stopped (s : State) :
    withCirc s (stoppedUnit s.ccu) =
      { s with
        ccu := stoppedUnit s.ccu
        slu := { s.slu with openIv := s.slu.openIv.map fun v =>
          { v with worst := if s.ccu.state ≠ .idle then worse v.worst .idle else v.worst } } } := by
  have hworst : ∀ w : CircState, (if CircState.idle = s.ccu.state then w
      else if w.rank < CircState.idle.rank then .idle else w) = if s.ccu.state ≠ .idle then worse w .idle else w :=
    fun w => by simp only [ne_eq, ite_not, eq_comm (a := CircState.idle)]; rfl
  simp only [withCirc, worstAfter_eq_map]
  exact congrArg (fun g => ({ s with ccu := stoppedUnit s.ccu, slu := { s.slu with openIv := s.slu.openIv.map g } } : State))
    (funext fun v => congrArg (fun w => { v with worst := w }) (hworst v.worst))

/-- The open interval's worst state after a stop that judges the window of `u`: the judged state, then IDLE (R54, R99). -/
def judgedWorst (u : CircUnit) (w : CircState) : CircState :=
  let st := (completedUnit u).state
  let w := if st ≠ u.state then worse w st else w
  if st ≠ .idle then worse w .idle else w

/-- A stop with a judged window takes the judged state in, then IDLE (R54, R99). -/
theorem withCirc_completed_stopped (s : State) :
    withCirc (withCirc s (completedUnit s.ccu)) (stoppedUnit (completedUnit s.ccu)) =
      { s with
        ccu := stoppedUnit (completedUnit s.ccu)
        slu := { s.slu with
          openIv := s.slu.openIv.map fun v => { v with worst := judgedWorst s.ccu v.worst } } } := by
  refine (withCirc_stopped (withCirc s (completedUnit s.ccu))).trans ?_
  simp only [withCirc, worstAfter_eq_map, Option.map_map]
  refine congrArg (fun g => ({ s with
    ccu := stoppedUnit (completedUnit s.ccu), slu := { s.slu with openIv := s.slu.openIv.map g } } : State))
    (funext fun v => ?_)
  simp only [Function.comp, judgedWorst, ne_eq, ite_not]
  rfl

/-- Settles O31: whether the pump's deadline is reached, whether another runs, whether the window is judged. -/
theorem pumpTimeoutStopsCirculation : Obligations.PumpTimeoutStopsCirculation := by
  unfold Obligations.PumpTimeoutStopsCirculation
  intro p s hp stopped
  have hexec : exec (.pumpTimeout p) s = .next (s.pumpStops p) := congrArg Host.Outcome.next (if_pos hp)
  refine ⟨fun hnot => hexec.trans (congrArg _ (pumpStops_of_not hnot)), fun hrun hzero => ⟨fun hother => ?_, fun hlast => ?_⟩⟩
  · exact hexec.trans (congrArg _ (pumpStops_of_other_runs ⟨hrun, hzero⟩ rfl hother))
  · intro judged f st loss gain worse worst idle rested
    have hstop := hexec.trans (congrArg _ (pumpStops_of_last ⟨hrun, hzero⟩ rfl hlast))
    rw [hstop]
    have hpw : stopped.pw = s.ccu.pw := by cases p <;> rfl
    have hwin : stopped.windowInForce = s.ccu.windowInForce := by cases p <;> rfl
    refine ⟨fun hshort => congrArg _ ?_, fun hjudged => congrArg _ ?_⟩
    · have hworst : ∀ w, worst w = if s.ccu.state ≠ .idle then worse w .idle else w := fun w => by
        simp only [worst, hshort, false_and, if_false]
      simp only [rested, hworst]
      rw [stopCirculation_of_short (by cases p <;> exact hshort), withCirc_stopped]
      cases p <;> rfl
    · have hworst : ∀ w, worst w = judgedWorst s.ccu w := fun w => by
        simp only [worst, hjudged, true_and, if_true]
        rfl
      simp only [rested, hworst]
      rw [stopCirculation_of_judged (by cases p <;> exact hjudged), withCirc_completed_stopped]
      cases p <;> rfl

end Sys2Proof.CirculationProofs
end

section
/-! Job Open (R57, R107, R123, R132, R133, R156). -/

namespace Sys2Proof.CirculationProofs

open Sys2Proof Machine ConnectionProofs

/-- The protect mark at Job Open, in the words of the statement (R156). -/
theorem markNow_eq (u : Store) :
    u.markNow =
      if u.areas.strata.get u.strataPos = none then
        (u.areas.strata.seq (u.strataPos / 256)).getD (u.areas.strata.greatest + 1)
      else u.areas.strata.greatest + 1 := by
  unfold Store.markNow
  cases u.areas.strata.get u.strataPos with
  | some x => rfl
  | none => cases u.areas.strata.seq (u.strataPos / 256) <;> rfl

/-- A request's numbers out of their ranges, in the words of the statement (R132). -/
theorem jobOpen_badValue_iff (job start : Nat) :
    (inRange 1 65535 job = false ∨ maxDepth < start) ↔ (job < 1 ∨ 65535 < job ∨ 1500000 < start) := by
  rw [← Bool.not_eq_true, inRange_iff, maxDepth]
  omega

theorem ownJobOpen_of_noJob {s : State} (h : s.jmu.state = .noJob) (job client start : Nat) :
    ownJobOpen job client start s =
      if job < 1 ∨ 65535 < job ∨ 1500000 < start then say .badValue s
      else if s.rst.unconfigured = true then say .unconfigured s
      else if start < s.str.d then say .belowBit s
      else say .ok (s.openJob ⟨job, client, start⟩) := by
  simp only [ownJobOpen, h, jobOpen_badValue_iff]

/-- The links told that the queue is no longer near full, if it was (R80). -/
def queueTold (s : State) : LinkUnit :=
  if s.lgu.nearRaw = true then (s.fire .queueNearFull (.raw false)).liu else s.liu

theorem queueTold_eq (s : State) :
    { s with liu := queueTold s } = if s.lgu.nearRaw = true then s.fire .queueNearFull (.raw false) else s := by
  unfold queueTold
  split <;> rfl

/-- The queue empties, and QUEUE_NEAR_FULL fires if it was near full (R73, R80, R94). -/
theorem emptyQueue_eq (s : State) :
    s.emptyQueue =
      { s with liu := queueTold s, lgu := { s.lgu with parcels := [], lastAnnulus := none, nearRaw := false } } := by
  unfold State.emptyQueue queueTold State.fireLevel
  cases s.lgu.nearRaw <;> rfl

/-- Every unit after an accepted Job Open (R133, R156). -/
theorem openJob_eq (s : State) (ident : JobIdent) :
    s.openJob ident =
      { s with
        str := { s.str with hole := ident.start }
        ccu := s.ccu.openJob
        lgu := { s.lgu with parcels := [], lastAnnulus := none, nearRaw := false }
        slu := { s.slu with
          anchor := some ident.start, closed := 0, overflow := [], lastClass := none
          openIv := some (openedAt 0 ident.start s.slu.step s.ccu.state) }
        jmu := s.jmu.openJob ident
        rst := { s.rst with protect := some s.rst.markNow }
        liu := queueTold s } := by
  have hliu : queueTold ((s.modStr fun u => { u with hole := ident.start }).modCcu CircUnit.openJob) = queueTold s := rfl
  simp only [State.openJob, emptyQueue_eq, hliu]
  rfl

/-- Settles O44: the checks in order; at an accepted open the queue's near level fires before the units are written. -/
theorem openingAJob : Obligations.OpeningAJob := by
  unfold Obligations.OpeningAJob
  intro ln tag job client start s h
  have answered : ∀ {st u}, ownJobOpen job client start s = say st u →
      exec (.jobOpen ln tag job client start) s = .next (u.sayOn ln 48 tag st) := request_of_say h tag
  split
  next hopen => exact answered (by simp only [ownJobOpen, hopen])
  next ph hclosing => exact answered (by simp only [ownJobOpen, hclosing])
  next hno =>
  have hown := ownJobOpen_of_noJob hno job client start
  split
  next hbad => exact answered (hown.trans (if_pos hbad))
  next hbad =>
  rw [if_neg hbad] at hown
  split
  next hconf => exact answered (hown.trans (if_pos hconf))
  next hconf =>
  rw [if_neg hconf] at hown
  split
  next hdeep => exact answered (hown.trans (if_pos hdeep))
  next hdeep =>
  rw [if_neg hdeep] at hown
  have hmark := markNow_eq s.rst
  have htold := queueTold_eq s
  dsimp only
  rw [answered hown, ← hmark, ← htold, openJob_eq]
  rfl

end Sys2Proof.CirculationProofs
end

section
/-! Pins and filters of the single lines (R48, R162, R163, R164). -/

namespace Sys2Proof.CirculationProofs

open Sys2Proof Machine ConnectionProofs

/-- The logical level at a pin, in the words of the statement (R159). -/
theorem logical_eq (r : LineRec) : r.logical = (r.pin == decide (r.cfg.pol = .activeHigh)) := by
  unfold LineRec.logical
  cases r.cfg.pol <;> cases r.pin <;> rfl

/-- A pin that keeps its level starts no stability time; another level starts it at the present moment (R162). -/
theorem pinChange_eq (s : State) (i : Fin 12) (high : Bool) :
    s.pinChange i high =
      if (s.flu.line i).pin = high then s
      else { s with flu := { s.flu with lines := s.flu.lines.set i { s.flu.line i with pin := high, stableSince := s.now } } } :=
  rfl

/-- The moment of a line's expiry (entry 6). -/
def expiryTime (s : State) (i : Fin 12) : State := s.timeTo (s.flu.line i).deadline

/-- The expiry of a single input line's filter, at its deadline (R162). -/
theorem filterExpiry_of_single {s : State} {i : Fin 12} (hin : (s.flu.line i).cfg.fn.isInput = true)
    (hsingle : (s.flu.line i).cfg.fn ≠ .encoder) : s.filterExpiry i = (expiryTime s i).lineExpiry i :=
  (if_pos hin).trans (if_neg hsingle)

/-- A line whose filtered level is its logical one keeps it (R162). -/
theorem lineExpiry_of_kept {s : State} {i : Fin 12} (h : (s.flu.line i).filtered = some (s.flu.line i).logical) :
    s.lineExpiry i = s := by
  simp [State.lineExpiry, h]

/-- A settling line takes its level; on SLIPS that may be a SET edge (R162, R164). -/
theorem lineExpiry_of_settling {s : State} {i : Fin 12} (h : (s.flu.line i).filtered = none) :
    s.lineExpiry i = (s.takeLevel i).settled (s.flu.line i).cfg.fn (s.flu.line i).logical := by
  simp only [State.lineExpiry, h]

/-- A line with another filtered level takes the new one, and its function takes the change (R162 to R164). -/
theorem lineExpiry_of_changed {s : State} {i : Fin 12} (h : (s.flu.line i).filtered = some (!(s.flu.line i).logical)) :
    s.lineExpiry i = (s.takeLevel i).acceptedChange (s.flu.line i).cfg.fn (s.flu.line i).logical := by
  simp [State.lineExpiry, h]

/-- A SET edge fires SLIPS_SET unless the slips are SET (R11). -/
theorem slipsSetEdge_eq (s : State) :
    s.slipsSetEdge =
      let t : State := { s with str := { s.str with slips := .set } }
      if s.str.slips = .set then t else t.fire .slipsSet (.raw true) := by
  unfold State.slipsSetEdge
  cases h : s.str.slips <;> simp [State.rawValue, h, fireLevel_of_ne] <;> rfl

/-- The first active edge of a pump is a stroke (R163). -/
theorem strokeEdge_of_none {s : State} {p : PumpId} (h : s.flu.lastStroke p = none) :
    s.strokeEdge p = (s.modFlu fun u => u.stamp p s.now).stroke p := by
  simp [State.strokeEdge, FieldUnit.dead, h]

/-- A later one is ignored within the dead time, else a stroke (R163; at 150 ms a stroke, entry 7). -/
theorem strokeEdge_of_some {s : State} {p : PumpId} {t : Nat} (h : s.flu.lastStroke p = some t) :
    s.strokeEdge p =
      if s.now - t < 1500 then s.modFlu fun u => u.ignore p else (s.modFlu fun u => u.stamp p s.now).stroke p := by
  have hdead : s.flu.dead p s.now = decide (s.now - t < 1500) := by
    unfold FieldUnit.dead
    rw [h]
    rfl
  unfold State.strokeEdge
  rw [hdead]
  by_cases hlt : s.now - t < 1500 <;> simp [hlt]

/-- Settles O49: pins by `pinChange_eq`, expiries by the line's filtered level, accepted changes by its function. -/
theorem pinsAndFilters : Obligations.PinsAndFilters := by
  unfold Obligations.PinsAndFilters
  refine ⟨fun i high after s hp => ?_, fun i s hp hout => ?_, fun i s active hp hin hsingle hactive => ?_⟩
  · exact congrArg Host.Outcome.next ((if_pos hp).trans (pinChange_eq (s.passTime after) i high))
  · exact congrArg Host.Outcome.next ((if_pos hp).trans (if_neg (by simp [hout])))
  · intro fn u v slipsSet
    rw [← logical_eq] at hactive
    have hexec : exec (.inputFilterExpiry i) s = .next (u.lineExpiry i) :=
      congrArg Host.Outcome.next ((if_pos hp).trans (filterExpiry_of_single hin hsingle))
    have htaken : u.takeLevel i = v := by
      simp only [v, hactive]
      rfl
    have hset : v.slipsSetEdge = slipsSet := slipsSetEdge_eq v
    rw [hexec]
    refine ⟨fun hkept => ?_, fun hsettling => ?_, fun hchanged => ?_⟩
    · exact congrArg _ (lineExpiry_of_kept (by rw [← hactive]; exact hkept))
    · rw [lineExpiry_of_settling (s := u) hsettling, htaken, ← hset, hactive]
      rfl
    · rw [lineExpiry_of_changed (s := u) (hchanged.trans (by rw [hactive])), htaken, ← hset]
      have hchange : ∀ f, fn = f →
          v.acceptedChange (u.flu.line i).cfg.fn (u.flu.line i).logical = v.acceptedChange f active :=
        fun f hfn => by rw [hactive, ← hfn]
      have hstroke : ∀ p, v.strokeEdge p = match v.flu.lastStroke p with
          | some t => if u.now - t < 1500 then v.modFlu fun u => u.ignore p else (v.modFlu fun w => w.stamp p u.now).stroke p
          | none => (v.modFlu fun w => w.stamp p u.now).stroke p := fun p => by
        cases hlast : v.flu.lastStroke p with
        | none => exact strokeEdge_of_none hlast
        | some t => exact strokeEdge_of_some hlast
      refine ⟨fun hfn => ?_, fun hfn => ?_, fun hfn => ?_, fun hfn => ?_, fun hfn => ?_⟩ <;>
        rw [hchange _ hfn] <;> refine congrArg _ ?_
      · rfl
      · rfl
      · rfl
      · cases active with
        | false => rfl
        | true => exact hstroke .one
      · cases active with
        | false => rfl
        | true => exact hstroke .two

end Sys2Proof.CirculationProofs
end

section
/-! The departures of records from the store (R90, R136, R142 to R146): what they can change, said once. -/

namespace Sys2Proof.CirculationProofs

open Sys2Proof Machine ConnectionProofs

/-! ### What departures can change -/

/-- The interval numbers of the cuttings queue, oldest first. -/
def intervals (u : LagUnit) : List Nat := u.parcels.map (·.record.interval)

/-- The parcels whose records are still under construction (R78). -/
def unfinal (u : LagUnit) : List Parcel := u.parcels.filter fun p => p.status != .finalWaiting

/-- The settings images in the store and those waiting for it are in their ranges (R143). -/
def StoredOk (u : Store) : Prop :=
  settingsSlotOk u.areas.settings.slot0 = true ∧ settingsSlotOk u.areas.settings.slot1 = true
    ∧ u.queue.all (fun e => e.body.settingsOk) = true

/-- How the job state may move when records depart: a held job record is offered, or dropped with its job (R136). -/
def JobMoves (a b : JobState) : Prop := b = a ∨ (a = .closing .held ∧ (b = .closing .offered ∨ b = .noJob))

/-- From `s` to `t` records depart from the store and those that wait are offered again: no figure moves, and of the cuttings
queue only parcels leave, final ones if `N` holds (for the intervals distinct from the start). A job ends on the way only in
a FAILED store (R90, R136, R146, R148). -/
structure Departs (N : Prop) (s t : State) : Prop where
  rig : rig t = rig s
  jmu : t.jmu = { s.jmu with state := t.jmu.state }
  moves : JobMoves s.jmu.state t.jmu.state
  lgu : t.lgu = { s.lgu with parcels := t.lgu.parcels, nearRaw := t.lgu.nearRaw }
  slu : t.slu = { s.slu with overflow := t.slu.overflow }
  parcels : t.lgu.parcels.Sublist s.lgu.parcels
  unfinal : N → unfinal t.lgu = unfinal s.lgu
  stored : StoredOk s.rst → StoredOk t.rst
  failed : t.rst.ctl.isFailed = s.rst.ctl.isFailed
  ends : s.rst.ctl.isFailed = false → t.jmu.state = .noJob → s.jmu.state = .noJob

variable {N : Prop}

theorem JobMoves.trans {a b c : JobState} (h : JobMoves a b) (h' : JobMoves b c) : JobMoves a c := by
  rcases h with rfl | ⟨rfl, rfl | rfl⟩ <;> rcases h' with rfl | ⟨hb, rfl | rfl⟩ <;> simp_all [JobMoves]

/-- Out of OPEN no job moves. -/
theorem JobMoves.of_opened {b : JobState} (h : JobMoves .opened b) : b = .opened := by
  rcases h with rfl | ⟨h, -⟩
  · rfl
  · cases h

/-- Into OPEN none moves either. -/
theorem JobMoves.opened {a b : JobState} (h : JobMoves a b) (hb : b = .opened) : a = .opened := by
  rcases h with rfl | ⟨-, rfl | rfl⟩
  · exact hb
  · cases hb
  · cases hb

theorem JobMoves.ne_noJob {a b : JobState} (h : JobMoves a b) (hb : b ≠ .noJob) : a ≠ .noJob := by
  rcases h with rfl | ⟨rfl, -⟩
  · exact hb
  · nofun

theorem JobMoves.of_noJob {b : JobState} (h : JobMoves .noJob b) : b = .noJob := by
  by_contra hb
  exact h.ne_noJob hb rfl

/-- A job found CLOSING was CLOSING. -/
theorem JobMoves.closing {a b : JobState} {ph : Phase} (h : JobMoves a b) (hb : b = .closing ph) : ∃ ph', a = .closing ph' := by
  rcases h with rfl | ⟨rfl, -⟩
  · exact ⟨ph, hb⟩
  · exact ⟨_, rfl⟩

/-- Parcels that leave the queue leave the interval numbers distinct. -/
theorem Departs.nodup {s t : State} (h : Departs N s t) (hs : (intervals s.lgu).Nodup) : (intervals t.lgu).Nodup :=
  hs.sublist (h.parcels.map _)

theorem Departs.refl (s : State) : Departs N s s :=
  ⟨rfl, rfl, .inl rfl, rfl, rfl, .refl _, fun _ => rfl, id, rfl, fun _ => id⟩

theorem Departs.trans {s t u : State} (h : Departs N s t) (h' : Departs N t u) : Departs N s u where
  rig := h'.rig.trans h.rig
  jmu := by rw [h'.jmu, h.jmu]
  moves := h.moves.trans h'.moves
  lgu := by rw [h'.lgu, h.lgu]
  slu := by rw [h'.slu, h.slu]
  parcels := h'.parcels.trans h.parcels
  unfinal hs := (h'.unfinal hs).trans (h.unfinal hs)
  stored := h'.stored ∘ h.stored
  failed := h'.failed.trans h.failed
  ends hf := h.ends hf ∘ h'.ends (h.failed.trans hf)

/-! ### The operations -/

theorem Departs.fire (s : State) (c : Cond) (x : Content) : Departs N s (s.fire c x) :=
  ⟨rfl, rfl, .inl rfl, rfl, rfl, .refl _, fun _ => rfl, id, rfl, fun _ => id⟩

/-- A change of the store alone that keeps the stored images in order and the controller FAILED or not. -/
theorem Departs.modRst {s : State} {f : Store → Store} (hstored : StoredOk s.rst → StoredOk (f s.rst))
    (hfailed : (f s.rst).ctl.isFailed = s.rst.ctl.isFailed) : Departs N s (s.modRst f) :=
  ⟨rfl, rfl, .inl rfl, rfl, rfl, .refl _, fun _ => rfl, hstored, hfailed, fun _ => id⟩

theorem Departs.popOverflow (s : State) : Departs N s s.popOverflow :=
  ⟨rfl, rfl, .inl rfl, rfl, rfl, .refl _, fun _ => rfl, id, rfl, fun _ => id⟩

theorem Departs.evalNearFull (s : State) : Departs N s s.evalNearFull := by
  unfold State.evalNearFull
  rw [State.fireLevel_eq]
  exact ⟨rfl, rfl, .inl rfl, rfl, rfl, .refl _, fun _ => rfl, id, rfl, fun _ => id⟩

/-- In a FAILED store the job whose record is held may end (R136). -/
theorem Departs.endJob {s : State} (hf : s.rst.ctl.isFailed = true) (hheld : s.jmu.state = .closing .held) :
    Departs N s s.endJob :=
  ⟨rfl, rfl, .inr ⟨hheld, .inr rfl⟩, rfl, rfl, .refl _, fun _ => rfl, id, rfl, fun h => by simp [hf] at h⟩

/-- The parcel of an interval leaves the queue; with distinct intervals no other is touched, so a final one may go. -/
theorem Departs.dropParcel {s : State} {n : Nat}
    (hfinal : N → ∀ p ∈ s.lgu.parcels, p.record.interval = n → p.status = .finalWaiting) :
    Departs N s (s.dropParcel n) := by
  refine Departs.trans (t := s.modLgu fun u => { u with parcels := u.parcels.filter (·.record.interval != n) }) ?_
    (.evalNearFull _)
  refine ⟨rfl, rfl, .inl rfl, rfl, rfl, List.filter_sublist, fun hs => ?_, id, rfl, fun _ => id⟩
  refine (List.filter_filter ..).trans (List.filter_congr fun p hp => ?_)
  by_cases hn : p.record.interval = n
  · simp [hfinal hs p hp hn]
  · simp [hn]

/-! ### Offers (R142) -/

theorem settingsOk_of_replaceImage {b : EntryBody} (hb : b.settingsOk = true) :
    ∀ {q q' : List Entry}, replaceImage b q = some q' → q.all (fun e => e.body.settingsOk) = true →
      q'.all (fun e => e.body.settingsOk) = true
  | e :: es, q', h, hq => by
    simp only [List.all_cons, Bool.and_eq_true] at hq
    unfold replaceImage at h
    split at h
    · cases h
      simp [hb, hq.2]
    · obtain ⟨r, hr, rfl⟩ := Option.map_eq_some_iff.mp h
      simp [hq.1, settingsOk_of_replaceImage hb hr hq.2]

theorem settingsOk_of_replaceQueued {b : EntryBody} (hb : b.settingsOk = true) {ctl : Ctl} {q q' : List Entry}
    (h : replaceQueued b ctl q = some q') (hq : q.all (fun e => e.body.settingsOk) = true) :
    q'.all (fun e => e.body.settingsOk) = true := by
  unfold replaceQueued at h
  split at h
  · cases q with
    | nil => cases h
    | cons e es =>
      simp only [List.all_cons, Bool.and_eq_true] at hq
      obtain ⟨r, hr, rfl⟩ := Option.map_eq_some_iff.mp h
      simp [hq.1, settingsOk_of_replaceImage hb hr hq.2]
  · exact settingsOk_of_replaceImage hb h hq

/-- What an offer can do to the store: nothing, an exchange of queued images, or a new last entry (R142). -/
theorem offer_cases (u : Store) (b : EntryBody) :
    ∃ q, (u.offer b).1 = { u with queue := q }
      ∧ (b.settingsOk = true → u.queue.all (fun e => e.body.settingsOk) = true →
          q.all (fun e => e.body.settingsOk) = true) := by
  unfold Store.offer
  split
  · exact ⟨_, rfl, fun _ => id⟩
  · split
    next q hq =>
      refine ⟨q, rfl, fun hb => settingsOk_of_replaceQueued hb (ctl := u.ctl) ?_⟩
      split at hq
      · exact hq
      · cases hq
    next =>
      split
      · exact ⟨_, rfl, fun hb hq => by simp [hq, hb]⟩
      · exact ⟨_, rfl, fun _ => id⟩

theorem Departs.offer (s : State) {b : EntryBody} (hb : b.settingsOk = true) : Departs N s (s.offer b).1 := by
  obtain ⟨q, hq, hok⟩ := offer_cases s.rst b
  have heq : (s.offer b).1 = s.modRst fun u => { u with queue := q } := congrArg (fun r => { s with rst := r }) hq
  rw [heq]
  exact .modRst (fun h => ⟨h.1, h.2.1, hok hb h.2.2⟩) rfl

theorem Departs.of_offer {s t : State} {b : EntryBody} {o : Offer} (h : s.offer b = (t, o)) (hb : b.settingsOk = true) :
    Departs N s t := by
  have := Departs.offer (N := N) s hb
  rwa [h] at this

/-- An offer is refused as failed exactly by a FAILED controller (R142). -/
theorem failed_of_offer {s t : State} {b : EntryBody} (h : s.offer b = (t, .failed)) : s.rst.ctl.isFailed = true := by
  by_contra hf
  have ho : (s.rst.offer b).2 = .failed := congrArg Prod.snd h
  unfold Store.offer at ho
  rw [if_neg hf] at ho
  split at ho
  · cases ho
  · split at ho <;> cases ho

/-! ### The round of re-offers and the release (R90, R136) -/

/-- In this queue every parcel of a waiting parcel's interval is final. -/
def FinalAt (u : LagUnit) (l : List Waiting) : Prop :=
  ∀ r, .parcel r ∈ l → ∀ p ∈ u.parcels, p.record.interval = r.interval → p.status = .finalWaiting

/-- With distinct intervals the records that wait are those of final parcels. -/
theorem finalAt_waiting {s : State} (h : (intervals s.lgu).Nodup) : FinalAt s.lgu s.waiting := by
  intro r hr p hp hn
  simp only [State.waiting, List.mem_append, List.mem_map, List.mem_filter, reduceCtorEq, and_false, exists_false,
    false_or, Waiting.parcel.injEq, beq_iff_eq] at hr
  obtain ⟨q, ⟨hq, hfinal⟩, rfl⟩ := hr
  rw [List.inj_on_of_nodup_map h hp hq hn]
  exact hfinal

/-- Waiting records are offered again (R90). -/
theorem Departs.reoffer (l : List Waiting) : ∀ s : State, (N → FinalAt s.lgu l) → Departs N s (reoffer l s) := by
  induction l with
  | nil => exact fun s _ => .refl s
  | cons w rest ih =>
    intro s hfinal
    have later : ∀ {t}, Departs N s t → Departs N s (Machine.reoffer rest t) := fun {t} h =>
      h.trans (ih t fun hN r hr p hp => hfinal hN r (List.mem_cons_of_mem _ hr) p (h.parcels.subset hp))
    cases w with
    | loose r =>
      unfold Machine.reoffer
      split <;> rename_i hoffer <;> have ho := Departs.of_offer (N := N) hoffer rfl
      · exact later (ho.trans (.popOverflow _))
      · exact ho
      · exact later ((ho.trans (.popOverflow _)).trans (.fire _ _ _))
    | parcel r =>
      have drop : ∀ {t}, Departs N s t → Departs N s (t.dropParcel r.interval) := fun {t} h =>
        h.trans (.dropParcel fun hN p hp => hfinal hN r List.mem_cons_self p (h.parcels.subset hp))
      unfold Machine.reoffer
      split <;> rename_i hoffer <;> have ho := Departs.of_offer (N := N) hoffer rfl
      · exact later (drop ho)
      · exact ho
      · exact later ((drop ho).trans (.fire _ _ _))

/-- The held job record is offered when no strata record of the job waits; a FAILED store drops it (R136). -/
theorem Departs.releaseCheck (s : State) : Departs N s s.releaseCheck := by
  unfold State.releaseCheck
  split
  next r hstate _ =>
    split
    · exact .refl s
    · split <;> rename_i t hoffer <;> have ho := Departs.of_offer (N := N) hoffer rfl <;>
        have hheld : t.jmu.state = .closing .held :=
          (congrArg (fun x => x.1.jmu.state) hoffer).symm.trans hstate
      · exact ho.trans ⟨rfl, rfl, .inr ⟨hheld, .inl rfl⟩, rfl, rfl, .refl _, fun _ => rfl, id, rfl, fun _ => nofun⟩
      · exact ho
      · exact (ho.trans (.fire _ _ _)).trans (.endJob (ho.failed.trans (failed_of_offer hoffer)) hheld)
  · exact .refl s

theorem Departs.handOn {s : State} (h : N → (intervals s.lgu).Nodup) : Departs N s s.handOn :=
  (Departs.reoffer _ s fun hN => finalAt_waiting (h hN)).trans (.releaseCheck _)

/-! ### The controller (R144, R145) -/

/-- Only a strata record is kept back by the protect mark (R145). -/
theorem strata_of_blocked {u : Store} {e : Entry} (h : u.startOf e = .blocked) : ∃ r, e.body = .strata r := by
  unfold Store.startOf at h
  split at h
  next r hr => exact ⟨r, hr⟩
  all_goals (repeat' split at h) <;> cases h

theorem StoredOk.eraseBlock {u : Store} (h : StoredOk u) (area : AreaId) (block : Nat) (ctl : Ctl) :
    StoredOk { u with areas := u.areas.eraseBlock area block, ctl } := by
  cases area with
  | settings => exact ⟨rfl, rfl, h.2.2⟩
  | _ => exact h

theorem StoredOk.tail {u : Store} (h : StoredOk u) (ctl : Ctl) : StoredOk { u with queue := u.queue.tail, ctl } :=
  ⟨h.1, h.2.1, List.all_eq_true.mpr fun e he => List.all_eq_true.mp h.2.2 e (List.mem_of_mem_tail he)⟩

/-- Work on the head of the queue begins; a protected one departs (R144, R145). -/
theorem Departs.work {s : State} (e : Entry) (hf : s.rst.ctl.isFailed = false) (h : N → (intervals s.lgu).Nodup) :
    Departs N s (s.work e).1 := by
  unfold State.work
  split
  · dsimp only
    exact .modRst id hf.symm
  · dsimp only
    refine .modRst ?_ ?_
    · exact fun hok => hok.eraseBlock _ _ _
    · exact hf.symm
  next hblocked =>
    obtain ⟨r, hr⟩ := strata_of_blocked hblocked
    simp only [hr]
    refine ((Departs.modRst ?_ ?_).trans (.fire _ _ _)).trans (.handOn h)
    · exact fun hok => hok.tail _
    · exact hf.symm

theorem Departs.takeLoop (fuel : Nat) :
    ∀ s : State, (N → (intervals s.lgu).Nodup) → Departs N s (takeLoop fuel s) := by
  induction fuel with
  | zero => exact fun s _ => .refl s
  | succ fuel ih =>
    intro s h
    unfold Machine.takeLoop
    split
    next e _ hctl _ =>
      have hwork := Departs.work e (by rw [hctl]; rfl) h
      split <;> rename_i heq <;> rw [heq] at hwork
      · exact hwork.trans (ih _ fun hN => hwork.nodup (h hN))
      · exact hwork
    next => exact .refl s

/-- A READY controller takes the head (R144). -/
theorem Departs.takeHead {s : State} (h : N → (intervals s.lgu).Nodup) : Departs N s s.takeHead := .takeLoop _ s h

end Sys2Proof.CirculationProofs
end

section
/-! A record becoming final (R89): classified, offered and placed, and what the departures after it can change. -/

namespace Sys2Proof.CirculationProofs

open Sys2Proof Machine ConnectionProofs

variable {N : Prop}

/-! ### The path of one record, before the controller takes a head -/

/-- The millimetres of a record. -/
def span (r : StrataRec) : Nat := r.bottom - r.top

/-- The Job Meter Unit once a final record is classified (R116). -/
def classified (u : JobUnit) (r : StrataRec) : JobUnit :=
  { u with
    pendingMm := u.pendingMm - span r
    cells := creditCells u.tariff.bounds r.top r.bottom r.billedRock u.cells }

/-- A final record before its offer: classified, and compared by the strata log (R103, R116). -/
def finalRecord (s : State) (r : StrataRec) : State := (s.classify r).compareStratum r

theorem finalRecord_eq (s : State) (r : StrataRec) :
    ∃ cls links, finalRecord s r =
      { s with jmu := classified s.jmu r, slu := { s.slu with lastClass := cls }, liu := links } := by
  unfold finalRecord State.compareStratum
  split
  · dsimp only
    split
    · split <;> exact ⟨_, _, rfl⟩
    · exact ⟨_, _, rfl⟩
  · exact ⟨_, _, rfl⟩

/-- The cuttings queue once the final record of one of its parcels has been offered (R89). -/
def placedParcels (o : Offer) (r : StrataRec) (l : List Parcel) : List Parcel :=
  match o with
  | .full => l.map fun p => if p.record.interval = r.interval then { p with record := r, status := .finalWaiting } else p
  | .accepted | .failed => l.filter fun p => p.record.interval != r.interval

/-- The overflow once a final record without a parcel has been offered (R91). -/
def placedOverflow (o : Offer) (r : StrataRec) (l : List StrataRec) : List StrataRec :=
  match o with
  | .full => if l.length < 4 then l ++ [r] else l
  | .accepted | .failed => l

/-- A parcel's record with its parcel placed, before the controller takes a head (R89). -/
def placedParcel (s : State) (r : StrataRec) : State :=
  match (finalRecord (s.modParcel r.interval fun p => { p with record := r }) r).offer (.strata r) with
  | (t, o) => t.placeParcel r o

/-- A record without a parcel, placed, before the controller takes a head (R89, R91). -/
def placedLoose (s : State) (r : StrataRec) : State :=
  match (finalRecord s r).offer (.strata r) with
  | (t, o) => t.placeLoose r o

theorem finishParcel_eq (s : State) (r : StrataRec) : s.finishParcel r = (placedParcel s r).takeHead := rfl

theorem finishLoose_eq (s : State) (r : StrataRec) : s.finishLoose r = (placedLoose s r).takeHead := rfl

theorem dropParcel_eq (s : State) (n : Nat) :
    ∃ near links, s.dropParcel n =
      { s with
        lgu := { s.lgu with parcels := s.lgu.parcels.filter (·.record.interval != n), nearRaw := near }, liu := links } := by
  unfold State.dropParcel State.evalNearFull
  rw [State.fireLevel_eq]
  exact ⟨_, _, rfl⟩

theorem placeParcel_eq (s : State) (r : StrataRec) (o : Offer) :
    ∃ near links, s.placeParcel r o =
      { s with
        lgu := { s.lgu with
          parcels := match o with
            | .full =>
              s.lgu.parcels.map fun p => if p.record.interval = r.interval then { p with status := .finalWaiting } else p
            | .accepted | .failed => s.lgu.parcels.filter (·.record.interval != r.interval)
          nearRaw := near }
        liu := links } := by
  obtain ⟨near, links, hdrop⟩ := dropParcel_eq s r.interval
  cases o with
  | accepted => exact ⟨near, links, hdrop⟩
  | full => exact ⟨s.lgu.nearRaw, s.liu, rfl⟩
  | failed => exact ⟨near, _, congrArg (fun t => State.dropStrata t r) hdrop⟩

/-- Writing a final record into its parcel is not seen once the parcel leaves. -/
theorem filter_map_record (r : StrataRec) (l : List Parcel) :
    (l.map fun p => if p.record.interval = r.interval then { p with record := r } else p).filter
      (·.record.interval != r.interval) = l.filter (·.record.interval != r.interval) := by
  induction l with
  | nil => rfl
  | cons p l ih => by_cases h : p.record.interval = r.interval <;> simp [h, ih]

/-- A final record written into its parcel, which then waits. -/
theorem map_map_record (r : StrataRec) (l : List Parcel) :
    (l.map fun p => if p.record.interval = r.interval then { p with record := r } else p).map
      (fun p => if p.record.interval = r.interval then { p with status := .finalWaiting } else p) =
      l.map fun p => if p.record.interval = r.interval then { p with record := r, status := .finalWaiting } else p := by
  rw [List.map_map]
  refine List.map_congr_left fun p _ => ?_
  by_cases h : p.record.interval = r.interval <;> simp [h]

theorem placedParcel_eq (s : State) (r : StrataRec) :
    ∃ cls near links, placedParcel s r =
      { s with
        jmu := classified s.jmu r
        slu := { s.slu with lastClass := cls }
        lgu := { s.lgu with
          parcels := placedParcels (s.rst.offer (.strata r)).2 r s.lgu.parcels, nearRaw := near }
        rst := (s.rst.offer (.strata r)).1
        liu := links } := by
  let t := s.modParcel r.interval fun p => { p with record := r }
  obtain ⟨cls, _, hfinal⟩ := finalRecord_eq t r
  obtain ⟨near, links, hplace⟩ :=
    placeParcel_eq ((finalRecord t r).offer (.strata r)).1 r ((finalRecord t r).offer (.strata r)).2
  refine ⟨cls, near, links, hplace.trans ?_⟩
  rw [hfinal]
  dsimp only [State.offer, t, State.modParcel, State.modLgu]
  cases (s.rst.offer (.strata r)).2 <;> simp only [placedParcels, filter_map_record, map_map_record]

theorem placeLoose_eq (s : State) (r : StrataRec) (o : Offer) :
    ∃ links, s.placeLoose r o =
      { s with slu := { s.slu with overflow := placedOverflow o r s.slu.overflow }, liu := links } := by
  refine ⟨(s.placeLoose r o).liu, ?_⟩
  cases o with
  | accepted => rfl
  | failed => rfl
  | full =>
    simp only [State.placeLoose, placedOverflow]
    split <;> rfl

theorem placedLoose_eq (s : State) (r : StrataRec) :
    ∃ cls links, placedLoose s r =
      { s with
        jmu := classified s.jmu r
        slu := { s.slu with
          lastClass := cls, overflow := placedOverflow (s.rst.offer (.strata r)).2 r s.slu.overflow }
        rst := (s.rst.offer (.strata r)).1
        liu := links } := by
  obtain ⟨cls, _, hfinal⟩ := finalRecord_eq s r
  obtain ⟨links, hplace⟩ :=
    placeLoose_eq ((finalRecord s r).offer (.strata r)).1 r ((finalRecord s r).offer (.strata r)).2
  refine ⟨cls, links, hplace.trans ?_⟩
  rw [hfinal]
  rfl

/-! ### Records becoming final, with the departures that follow -/

/-- The keys by which the cuttings queue is ordered: interval numbers and effective targets (R77). -/
def queueKeys (u : LagUnit) : List (Nat × Nat) := u.parcels.map fun p => (p.record.interval, p.eff)

/-- The Job Meter Unit once these records have been classified in turn. -/
def classifiedAll (u : JobUnit) (recs : List StrataRec) : JobUnit := recs.foldl classified u

/-- From `s` to `t` the records `recs` became final, in turn, with all that departs from the store on the way (R89). -/
structure Finals (recs : List StrataRec) (s t : State) : Prop where
  rig : rig t = rig s
  jmu : t.jmu = { classifiedAll s.jmu recs with state := t.jmu.state }
  moves : JobMoves s.jmu.state t.jmu.state
  lgu : t.lgu = { s.lgu with parcels := t.lgu.parcels, nearRaw := t.lgu.nearRaw }
  slu : t.slu = { s.slu with overflow := t.slu.overflow, lastClass := t.slu.lastClass }
  keys : (queueKeys t.lgu).Sublist (queueKeys s.lgu)
  stored : StoredOk s.rst → StoredOk t.rst
  failed : t.rst.ctl.isFailed = s.rst.ctl.isFailed
  ends : s.rst.ctl.isFailed = false → t.jmu.state = .noJob → s.jmu.state = .noJob

theorem classifiedAll_append (u : JobUnit) (l l' : List StrataRec) :
    classifiedAll u (l ++ l') = classifiedAll (classifiedAll u l) l' := List.foldl_append

/-- The job state plays no part in a classification. -/
theorem classifiedAll_state (recs : List StrataRec) :
    ∀ (u : JobUnit) (st : JobState),
      classifiedAll { u with state := st } recs = { classifiedAll u recs with state := st } := by
  induction recs with
  | nil => exact fun _ _ => rfl
  | cons r recs ih => exact fun u st => ih (classified u r) st

theorem Finals.trans {l l' : List StrataRec} {s t u : State} (h : Finals l s t) (h' : Finals l' t u) :
    Finals (l ++ l') s u where
  rig := h'.rig.trans h.rig
  jmu := by rw [h'.jmu, h.jmu, classifiedAll_state, classifiedAll_append]
  moves := h.moves.trans h'.moves
  lgu := by rw [h'.lgu, h.lgu]
  slu := by rw [h'.slu, h.slu]
  keys := h'.keys.trans h.keys
  stored := h'.stored ∘ h.stored
  failed := h'.failed.trans h.failed
  ends hf := h.ends hf ∘ h'.ends (h.failed.trans hf)

theorem Departs.finals {s t : State} (h : Departs N s t) : Finals [] s t :=
  ⟨h.rig, h.jmu, h.moves, h.lgu, by rw [h.slu], h.parcels.map _, h.stored, h.failed, h.ends⟩

theorem queueKeys_placed (o : Offer) (r : StrataRec) (u : LagUnit) (near : Bool) :
    (queueKeys { u with parcels := placedParcels o r u.parcels, nearRaw := near }).Sublist (queueKeys u) := by
  cases o with
  | full =>
    refine Eq.subst (motive := fun l => List.Sublist l _) (Eq.symm ?_) (List.Sublist.refl (queueKeys u))
    simp only [queueKeys, placedParcels, List.map_map]
    refine List.map_congr_left fun p _ => ?_
    by_cases h : p.record.interval = r.interval <;> simp [h]
  | _ => exact List.filter_sublist.map _

/-- The record of a parcel becomes final (R89). -/
theorem finals_finishParcel (s : State) (r : StrataRec) : Finals [r] s (s.finishParcel r) := by
  obtain ⟨cls, near, links, hplaced⟩ := placedParcel_eq s r
  obtain ⟨q, hq, hok⟩ := offer_cases s.rst (.strata r)
  have hfinals : Finals [r] s (placedParcel s r) := by
    rw [hplaced]
    refine ⟨rfl, rfl, .inl rfl, rfl, rfl, queueKeys_placed _ _ _ _, fun h => ?_, ?_, fun _ => id⟩
    · simp only [hq]
      exact ⟨h.1, h.2.1, hok rfl h.2.2⟩
    · simp only [hq]
  exact finishParcel_eq s r ▸ hfinals.trans (Departs.takeHead (N := False) nofun).finals

/-- A record without a parcel becomes final (R89, R91). -/
theorem finals_finishLoose (s : State) (r : StrataRec) : Finals [r] s (s.finishLoose r) := by
  obtain ⟨cls, links, hplaced⟩ := placedLoose_eq s r
  obtain ⟨q, hq, hok⟩ := offer_cases s.rst (.strata r)
  have hfinals : Finals [r] s (placedLoose s r) := by
    rw [hplaced]
    refine ⟨rfl, rfl, .inl rfl, rfl, rfl, .refl _, fun h => ?_, ?_, fun _ => id⟩
    · simp only [hq]
      exact ⟨h.1, h.2.1, hok rfl h.2.2⟩
    · simp only [hq]
  exact finishLoose_eq s r ▸ hfinals.trans (Departs.takeHead (N := False) nofun).finals

/-! ### The parcels under construction -/

theorem unfinal_placed (o : Offer) (r : StrataRec) (u : LagUnit) (near : Bool) :
    unfinal { u with parcels := placedParcels o r u.parcels, nearRaw := near } =
      (unfinal u).filter fun p => p.record.interval != r.interval := by
  cases o with
  | full =>
    simp only [unfinal, placedParcels]
    induction u.parcels with
    | nil => rfl
    | cons p l ih => by_cases h : p.record.interval = r.interval <;> simp [List.filter_cons, h, ih] <;> split <;> simp [h]
  | _ => simp only [unfinal, placedParcels, List.filter_filter, Bool.and_comm]

theorem intervals_eq (u : LagUnit) : intervals u = (queueKeys u).map (·.1) := by simp [intervals, queueKeys]

theorem Finals.nodup {recs : List StrataRec} {s t : State} (h : Finals recs s t) (hs : (intervals s.lgu).Nodup) :
    (intervals t.lgu).Nodup := by
  rw [intervals_eq] at hs ⊢
  exact hs.sublist (h.keys.map _)

/-- With distinct intervals a parcel's record becoming final leaves the others under construction (R89). -/
theorem unfinal_finishParcel {s : State} (h : (intervals s.lgu).Nodup) (r : StrataRec) :
    unfinal (s.finishParcel r).lgu = (unfinal s.lgu).filter fun p => p.record.interval != r.interval := by
  obtain ⟨cls, near, links, hplaced⟩ := placedParcel_eq s r
  have hnodup : (intervals (placedParcel s r).lgu).Nodup := by
    rw [intervals_eq] at h ⊢
    rw [hplaced]
    exact h.sublist ((queueKeys_placed _ _ _ _).map _)
  rw [finishParcel_eq, (Departs.takeHead (N := True) fun _ => hnodup).unfinal trivial, hplaced]
  exact unfinal_placed _ _ _ _

/-- With distinct intervals a record without a parcel leaves every parcel under construction (R89). -/
theorem unfinal_finishLoose {s : State} (h : (intervals s.lgu).Nodup) (r : StrataRec) :
    unfinal (s.finishLoose r).lgu = unfinal s.lgu := by
  obtain ⟨cls, links, hplaced⟩ := placedLoose_eq s r
  have hlgu : (placedLoose s r).lgu = s.lgu := by rw [hplaced]
  rw [finishLoose_eq, (Departs.takeHead (N := True) fun _ => hlgu ▸ h).unfinal trivial, hlgu]

/-- Whatever the intervals, a parcel still under construction was so before, and is of another interval. -/
theorem mem_unfinal_finishParcel {s : State} {r : StrataRec} {p : Parcel} (h : p ∈ unfinal (s.finishParcel r).lgu) :
    p ∈ unfinal s.lgu ∧ p.record.interval ≠ r.interval := by
  obtain ⟨cls, near, links, hplaced⟩ := placedParcel_eq s r
  have hsub : (unfinal (s.finishParcel r).lgu).Sublist (unfinal (placedParcel s r).lgu) :=
    (Departs.takeHead (N := False) nofun).parcels.filter _
  have hp := hsub.subset h
  rw [hplaced] at hp
  simpa [unfinal_placed] using hp

/-- Once a list of records has become final no parcel of their intervals is under construction. -/
theorem mem_unfinal_foldl {recs : List StrataRec} : ∀ {s : State} {p : Parcel},
    p ∈ unfinal (recs.foldl State.finishParcel s).lgu → p ∈ unfinal s.lgu ∧ ∀ r ∈ recs, p.record.interval ≠ r.interval := by
  induction recs with
  | nil => exact fun h => ⟨h, List.forall_mem_nil _⟩
  | cons r recs ih =>
    intro s p h
    obtain ⟨hmem, hrest⟩ := ih h
    obtain ⟨hs, hr⟩ := mem_unfinal_finishParcel hmem
    exact ⟨hs, List.forall_mem_cons.mpr ⟨hr, hrest⟩⟩

end Sys2Proof.CirculationProofs
end

section
/-! The balance of hole depth, pending and cells (R116): sums over tables and parcels, and the ledger that a final record, a
new parcel and an advance of the hole keep. -/

namespace Sys2Proof.CirculationProofs

open Sys2Proof Machine ConnectionProofs

/-! ### Sums of tables -/

theorem sum_set_add (x : Nat) : ∀ (l : List Nat) (i : Nat) (h : i < l.length), (l.set i (l[i] + x)).sum = l.sum + x
  | _ :: _, 0, _ => by simp; omega
  | a :: l, i + 1, h => by simp [sum_set_add x l i (by simpa using h)]; omega

/-- A table's sum rises by what one of its entries rises by. -/
theorem sum_bump {n : Nat} (v : Vector Nat n) {i : Nat} (h : i < n) (x : Nat) :
    (bump v i fun a => a + x).toList.sum = v.toList.sum + x := by
  have hlen : i < v.toList.length := by simpa using h
  unfold bump
  rw [dif_pos h, Vector.toList_set]
  exact sum_set_add x v.toList i hlen

/-- The bounds of a tariff table rise from 0 (R125). -/
def BoundsOk (b : Vector Nat 6) : Prop := b[0] = 0 ∧ strictlyRising b.toList = true

theorem BoundsOk.lt {b : Vector Nat 6} (h : BoundsOk b) (i : Nat) (hi : i + 1 < 6) : b[i] < b[i + 1] := by
  have hpair := (strictlyRising_iff _).mp h.2
  have hlt := List.pairwise_iff_getElem.mp hpair i (i + 1) (by simp; omega) (by simpa using hi) (Nat.lt_succ_self i)
  simpa using hlt

/-- What lies between rising bounds, and from the last of them on, makes up the span. -/
theorem split_at_bounds {b1 b2 b3 b4 b5 : Nat} (h1 : 0 < b1) (h2 : b1 < b2) (h3 : b2 < b3) (h4 : b3 < b4) (h5 : b4 < b5)
    (top bottom : Nat) :
    (min bottom b1 - max top 0) + ((min bottom b2 - max top b1) + ((min bottom b3 - max top b2)
      + ((min bottom b4 - max top b3) + ((min bottom b5 - max top b4) + (bottom - max top b5))))) = bottom - top := by
  have telescope : ∀ {lower upper : Nat}, lower < upper →
      (min bottom upper - max top lower) + (bottom - max top upper) = bottom - max top lower := by omega
  rw [telescope h5, telescope h4, telescope h3, telescope h2, telescope h1, Nat.max_zero]

/-- The bands split a span (R117). -/
theorem sum_bandPart {b : Vector Nat 6} (hb : BoundsOk b) (top bottom : Nat) :
    ((List.range 6).map (bandPart b top bottom)).sum = bottom - top := by
  have h := split_at_bounds (hb.1 ▸ hb.lt 0 (by decide)) (hb.lt 1 (by decide)) (hb.lt 2 (by decide))
    (hb.lt 3 (by decide)) (hb.lt 4 (by decide)) top bottom
  rw [← hb.1] at h
  simpa [List.range, List.range.loop, bandPart] using h

/-- A span credited to the cells raises their sum by its millimetres (R116, R117). -/
theorem sum_creditCells {b : Vector Nat 6} (hb : BoundsOk b) (top bottom : Nat) (rock : RockClass) (cells : Vector Nat 24) :
    (creditCells b top bottom rock cells).toList.sum = cells.toList.sum + (bottom - top) := by
  have hrock : rock.code < 4 := by cases rock <;> decide
  have hfold : ∀ (l : List Nat) (c : Vector Nat 24), (∀ k ∈ l, k < 6) →
      (l.foldl (fun c k => bump c (k * 4 + rock.code) fun v => v + bandPart b top bottom k) c).toList.sum =
        c.toList.sum + (l.map (bandPart b top bottom)).sum := by
    intro l
    induction l with
    | nil => exact fun c _ => rfl
    | cons k l ih =>
      intro c h
      have hk : k < 6 := h k List.mem_cons_self
      rw [List.foldl_cons, ih _ fun j hj => h j (List.mem_cons_of_mem _ hj), sum_bump _ (by omega), List.map_cons,
        List.sum_cons, Nat.add_assoc]
  exact (hfold (List.range 6) cells fun k hk => List.mem_range.mp hk).trans (by rw [sum_bandPart hb])

/-! ### The order of the cuttings queue (R77) -/

theorem nonDecreasing_iff (l : List Nat) : nonDecreasing l = true ↔ l.Pairwise (· ≤ ·) := by
  induction l with
  | nil => simp [nonDecreasing]
  | cons x l ih =>
    cases l with
    | nil => simp [nonDecreasing]
    | cons y l =>
      rw [nonDecreasing, Bool.and_eq_true, decide_eq_true_eq, ih, List.pairwise_cons (a := x)]
      refine and_congr_left fun hl => ⟨fun hxy z hz => ?_, fun h => h y List.mem_cons_self⟩
      rcases List.mem_cons.mp hz with rfl | hz
      · exact hxy
      · exact hxy.trans ((List.pairwise_cons.mp hl).1 z hz)

/-- The order of a cuttings queue, on the keys of its parcels (R77). -/
structure KeysOk (keys : List (Nat × Nat)) : Prop where
  room : keys.length ≤ 32
  rising : (keys.map (·.1)).Pairwise (· < ·)
  targets : (keys.map (·.2)).Pairwise (· ≤ ·)

/-- Every interval of the queue is older than `n`. -/
def Older (keys : List (Nat × Nat)) (n : Nat) : Prop := ∀ k ∈ keys, k.1 < n

theorem targets_eq (u : LagUnit) : (queueKeys u).map (·.2) = u.parcels.map (·.eff) := by simp [queueKeys]

theorem queueOk_iff (s : State) :
    QueueOk s ↔ KeysOk (queueKeys s.lgu) ∧ ∀ iv, s.slu.openIv = some iv → Older (queueKeys s.lgu) iv.number := by
  have hfst : (queueKeys s.lgu).map (·.1) = s.lgu.parcels.map (·.record.interval) := (intervals_eq _).symm
  have hlen : (queueKeys s.lgu).length = s.lgu.parcels.length := by simp [queueKeys]
  have holder : ∀ n, Older (queueKeys s.lgu) n ↔ ∀ p ∈ s.lgu.parcels, p.record.interval < n := fun n => by
    simp [Older, queueKeys]
  simp only [holder]
  unfold QueueOk
  rw [strictlyRising_iff, nonDecreasing_iff, ← hfst, ← targets_eq, ← hlen]
  exact ⟨fun ⟨a, b, c, d⟩ => ⟨⟨a, b, c⟩, d⟩, fun ⟨⟨a, b, c⟩, d⟩ => ⟨a, b, c, d⟩⟩

theorem KeysOk.sublist {l l' : List (Nat × Nat)} (h : KeysOk l) (hsub : l'.Sublist l) : KeysOk l' :=
  ⟨hsub.length_le.trans h.room, h.rising.sublist (hsub.map _), h.targets.sublist (hsub.map _)⟩

theorem Older.sublist {l l' : List (Nat × Nat)} {n : Nat} (h : Older l n) (hsub : l'.Sublist l) : Older l' n :=
  fun k hk => h k (hsub.subset hk)

theorem KeysOk.nodup {u : LagUnit} (h : KeysOk (queueKeys u)) : (intervals u).Nodup := by
  rw [intervals_eq]
  exact h.rising.imp fun hlt => hlt.ne

/-- A queue with room takes a newer interval with a target that does not fall (R71, R77). -/
theorem KeysOk.append {l : List (Nat × Nat)} (h : KeysOk l) (hroom : l.length < 32) {n eff : Nat} (hold : Older l n)
    (heff : ∀ k ∈ l, k.2 ≤ eff) : KeysOk (l ++ [(n, eff)]) := by
  refine ⟨by simp; omega, ?_, ?_⟩
  · rw [List.map_append, List.pairwise_append]
    exact ⟨h.rising, List.pairwise_singleton _ _, by simpa [Older] using hold⟩
  · rw [List.map_append, List.pairwise_append]
    refine ⟨h.targets, List.pairwise_singleton _ _, ?_⟩
    simp only [List.mem_map, List.map_cons, List.map_nil, List.mem_singleton, forall_exists_index, and_imp]
    rintro _ k hk rfl _ rfl
    exact heff k hk

/-- No target of the queue passes that of a new parcel (R71). -/
theorem le_effectiveTarget {u : LagUnit} (h : KeysOk (queueKeys u)) (raw : Nat) :
    ∀ k ∈ queueKeys u, k.2 ≤ effectiveTarget u.parcels raw := by
  have hp : (u.parcels.map (·.eff)).Pairwise (· ≤ ·) := targets_eq u ▸ h.targets
  simp only [queueKeys, List.mem_map, forall_exists_index, and_imp, forall_apply_eq_imp_iff₂]
  intro p hmem
  unfold effectiveTarget
  rcases List.eq_nil_or_concat u.parcels with hnil | ⟨l, q, hq⟩
  · simp [hnil] at hmem
  · rw [List.concat_eq_append] at hq
    rw [hq] at hp hmem ⊢
    simp only [List.getLast?_append, List.getLast?_singleton, Option.some_or, Option.map_some, Option.getD_some]
    refine le_max_of_le_right ?_
    rcases List.mem_append.mp hmem with hl | hl
    · rw [List.map_append, List.pairwise_append] at hp
      exact hp.2.2 _ (List.mem_map_of_mem hl) _ (by simp)
    · rw [List.mem_singleton.mp hl]

/-! ### The millimetres under construction -/

theorem risingMm_eq (s : State) : s.risingMm = ((unfinal s.lgu).map fun p => span p.record).sum := rfl

/-- With distinct intervals one parcel's millimetres leave the sum with it. -/
theorem sum_span_filter {p : Parcel} : ∀ {l : List Parcel}, (l.map (·.record.interval)).Nodup → p ∈ l →
    ((l.filter fun q => q.record.interval != p.record.interval).map fun q => span q.record).sum + span p.record =
      (l.map fun q => span q.record).sum
  | q :: l, hnodup, hp => by
    simp only [List.map_cons, List.nodup_cons, List.mem_map, not_exists, not_and] at hnodup
    obtain ⟨hfirst, hrest⟩ := hnodup
    rcases List.mem_cons.mp hp with rfl | hp
    · have hkeep : (l.filter fun q => q.record.interval != p.record.interval) = l :=
        List.filter_eq_self.mpr fun q hq => by simpa using hfirst q hq
      simp [hkeep]
      omega
    · have hne : q.record.interval ≠ p.record.interval := fun h => hfirst p hp h.symm
      have ih := sum_span_filter hrest hp
      simp [hne]
      omega

/-! ### The ledger (R116) -/

/-- Hole depth is start depth plus pending plus the cells, and pending is `x` millimetres plus those of
the parcels under construction (R116). -/
structure Ledger (x : Nat) (s : State) : Prop where
  balance : ∃ id, s.jmu.ident = some id ∧ s.str.hole = id.start + s.jmu.pendingMm + s.jmu.cells.toList.sum
  pending : s.jmu.pendingMm = x + s.risingMm

/-- A final record moves its millimetres from pending to the cells (R116). -/
theorem Ledger.finals {s t : State} {r : StrataRec} {x y : Nat} (h : Ledger x s) (hb : BoundsOk s.jmu.tariff.bounds)
    (hf : Finals [r] s t) (hxy : x + s.risingMm = y + t.risingMm + span r) : Ledger y t := by
  have hjmu : t.jmu = { classified s.jmu r with state := t.jmu.state } := hf.jmu
  have hstr : t.str = s.str := congrArg Rig.str hf.rig
  have hident : t.jmu.ident = s.jmu.ident := by rw [hjmu]; rfl
  have hpending : t.jmu.pendingMm = s.jmu.pendingMm - span r := by rw [hjmu]; rfl
  have hcells : t.jmu.cells.toList.sum = s.jmu.cells.toList.sum + span r := by
    rw [hjmu]
    exact sum_creditCells hb _ _ _ _
  obtain ⟨id, hid, hhole⟩ := h.balance
  have hp := h.pending
  refine ⟨⟨id, hident.trans hid, ?_⟩, by omega⟩
  rw [hstr, hhole, hpending, hcells]
  omega

/-- A parcel's record, its interval and span as they were, becomes final: what is under construction falls with pending. -/
theorem Ledger.finishParcel {s : State} {r : StrataRec} {x : Nat} (h : Ledger x s) (hb : BoundsOk s.jmu.tariff.bounds)
    (hnodup : (intervals s.lgu).Nodup) {p : Parcel} (hp : p ∈ unfinal s.lgu) (hn : r.interval = p.record.interval)
    (hspan : span r = span p.record) : Ledger x (s.finishParcel r) := by
  refine h.finals hb (finals_finishParcel s r) ?_
  have hsum := sum_span_filter (l := unfinal s.lgu) (hnodup.sublist (List.filter_sublist.map _)) hp
  rw [risingMm_eq, risingMm_eq, unfinal_finishParcel hnodup, hn, hspan]
  omega

/-- A record without a parcel becomes final: its millimetres were not under construction. -/
theorem Ledger.finishLoose {s : State} {r : StrataRec} {x : Nat} (h : Ledger (x + span r) s)
    (hb : BoundsOk s.jmu.tariff.bounds) (hnodup : (intervals s.lgu).Nodup) : Ledger x (s.finishLoose r) := by
  refine h.finals hb (finals_finishLoose s r) ?_
  rw [risingMm_eq, risingMm_eq, unfinal_finishLoose hnodup]
  omega

end Sys2Proof.CirculationProofs
end

section
/-! An advance of the hole (R17, R97, R115): intervals close one after another, and the balance holds again at the end. -/

namespace Sys2Proof.CirculationProofs

open Sys2Proof Machine ConnectionProofs

/-! ### What an advance leaves alone -/

/-- From `s` to `t` records became final, parcels and intervals opened and closed: the rig and every setting, the meters and
the identity of the job are as they were (R89, R95, R97, R115). -/
structure Advances (s t : State) : Prop where
  rig : rig t = rig s
  jmu : t.jmu = { s.jmu with
    state := t.jmu.state, pendingMm := t.jmu.pendingMm, cells := t.jmu.cells, lastAdvance := t.jmu.lastAdvance }
  moves : JobMoves s.jmu.state t.jmu.state
  lgu : t.lgu = { s.lgu with parcels := t.lgu.parcels, nearRaw := t.lgu.nearRaw, lastAnnulus := t.lgu.lastAnnulus }
  slu : t.slu = { s.slu with
    overflow := t.slu.overflow, lastClass := t.slu.lastClass, openIv := t.slu.openIv, closed := t.slu.closed }
  stored : StoredOk s.rst → StoredOk t.rst

theorem Advances.refl (s : State) : Advances s s := ⟨rfl, rfl, .inl rfl, rfl, rfl, id⟩

theorem Advances.trans {s t u : State} (h : Advances s t) (h' : Advances t u) : Advances s u where
  rig := h'.rig.trans h.rig
  jmu := by rw [h'.jmu, h.jmu]
  moves := h.moves.trans h'.moves
  lgu := by rw [h'.lgu, h.lgu]
  slu := by rw [h'.slu, h.slu]
  stored := h'.stored ∘ h.stored

theorem classifiedAll_eq (recs : List StrataRec) : ∀ u : JobUnit,
    classifiedAll u recs =
      { u with pendingMm := (classifiedAll u recs).pendingMm, cells := (classifiedAll u recs).cells } := by
  induction recs with
  | nil => exact fun _ => rfl
  | cons r recs ih => exact fun u => (ih (classified u r)).trans rfl

theorem Finals.advances {recs : List StrataRec} {s t : State} (h : Finals recs s t) : Advances s t where
  rig := h.rig
  jmu := by rw [h.jmu, classifiedAll_eq]
  moves := h.moves
  lgu := by rw [h.lgu]
  slu := by rw [h.slu]
  stored := h.stored

theorem Advances.fire (s : State) (c : Cond) (x : Content) : Advances s (s.fire c x) := ⟨rfl, rfl, .inl rfl, rfl, rfl, id⟩

/-- The open interval and the count of closed ones change. -/
theorem Advances.setIntervals (s : State) (iv : Option OpenInterval) (closed : Nat) :
    Advances s { s with slu := { s.slu with openIv := iv, closed } } := ⟨rfl, rfl, .inl rfl, rfl, rfl, id⟩

/-! ### The creation of a parcel (R71, R82) -/

theorem createParcel_eq (s : State) (r : StrataRec) :
    ∃ raw shown near links, s.createParcel r =
      { s with
        lgu := { s.lgu with
          lastAnnulus := some shown, nearRaw := near
          parcels := s.lgu.parcels ++ [⟨raw, effectiveTarget s.lgu.parcels raw, .inFlight, none, r⟩] }
        liu := links } := by
  unfold State.createParcel State.evalNearFull
  dsimp only
  rw [State.fireLevel_eq, State.fireEach_eq]
  exact ⟨_, _, _, _, rfl⟩

theorem Advances.createParcel (s : State) (r : StrataRec) : Advances s (s.createParcel r) := by
  obtain ⟨raw, shown, near, links, h⟩ := createParcel_eq s r
  rw [h]
  exact ⟨rfl, rfl, .inl rfl, rfl, rfl, id⟩

theorem queueKeys_createParcel (s : State) (r : StrataRec) :
    ∃ raw, queueKeys (s.createParcel r).lgu = queueKeys s.lgu ++ [(r.interval, effectiveTarget s.lgu.parcels raw)] := by
  obtain ⟨raw, shown, near, links, h⟩ := createParcel_eq s r
  rw [h]
  exact ⟨raw, by simp [queueKeys]⟩

theorem risingMm_createParcel (s : State) (r : StrataRec) : (s.createParcel r).risingMm = s.risingMm + span r := by
  obtain ⟨raw, shown, near, links, h⟩ := createParcel_eq s r
  rw [h]
  simp [State.risingMm, span]

/-- The drilled millimetres of a new parcel are under construction. -/
theorem Ledger.createParcel {s : State} {r : StrataRec} {x : Nat} (h : Ledger (x + span r) s) :
    Ledger x (s.createParcel r) := by
  have hrising := risingMm_createParcel s r
  obtain ⟨raw, shown, near, links, heq⟩ := createParcel_eq s r
  rw [heq] at hrising ⊢
  refine ⟨h.balance, ?_⟩
  rw [hrising]
  exact h.pending.trans (by omega)

/-! ### The fate of an interval (R81) -/

theorem Advances.parcelFate (s : State) (r : StrataRec) : Advances s (s.parcelFate r) := by
  unfold State.parcelFate
  split
  · exact (finals_finishLoose _ _).advances
  · split
    · exact (Advances.fire _ _ _).trans (finals_finishLoose _ _).advances
    · exact .createParcel _ _

/-- The fate of an interval newer than the queue keeps the queue in order (R71, R77, R81). -/
theorem keysOk_parcelFate {s : State} {r : StrataRec} (h : KeysOk (queueKeys s.lgu))
    (hold : Older (queueKeys s.lgu) r.interval) :
    KeysOk (queueKeys (s.parcelFate r).lgu) ∧ Older (queueKeys (s.parcelFate r).lgu) (r.interval + 1) := by
  have holder : Older (queueKeys s.lgu) (r.interval + 1) := fun k hk => (hold k hk).trans (Nat.lt_succ_self _)
  unfold State.parcelFate
  split
  · have hkeys := (finals_finishLoose s (r.unsampled .lostReturns)).keys
    exact ⟨h.sublist hkeys, holder.sublist hkeys⟩
  · split
    · have hkeys := (finals_finishLoose (s.fire .parcelUntracked (.interval r.interval)) (r.unsampled .untracked)).keys
      exact ⟨h.sublist hkeys, holder.sublist hkeys⟩
    next hroom =>
      obtain ⟨raw, hkeys⟩ := queueKeys_createParcel s r
      rw [hkeys]
      have hlen : (queueKeys s.lgu).length < 32 := by simpa [queueKeys, queueRoom] using hroom
      refine ⟨h.append hlen hold (le_effectiveTarget h raw), fun k hk => ?_⟩
      rcases List.mem_append.mp hk with hk | hk
      · exact holder k hk
      · rw [List.mem_singleton.mp hk]
        exact Nat.lt_succ_self _

/-- The fate of an interval takes its millimetres into the parcels or the cells (R81, R116). -/
theorem Ledger.parcelFate {s : State} {r : StrataRec} {x : Nat} (h : Ledger (x + span r) s)
    (hb : BoundsOk s.jmu.tariff.bounds) (hkeys : KeysOk (queueKeys s.lgu)) : Ledger x (s.parcelFate r) := by
  unfold State.parcelFate
  split
  · exact Ledger.finishLoose (r := r.unsampled .lostReturns) h hb hkeys.nodup
  · split
    · exact Ledger.finishLoose (s := s.fire .parcelUntracked (.interval r.interval)) (r := r.unsampled .untracked)
        ⟨h.balance, h.pending⟩ hb hkeys.nodup
    · exact h.createParcel

/-! ### The close of an interval (R95, R98) -/

/-- The record of the open interval at its bottom (R98). -/
def recordOf (s : State) (iv : OpenInterval) : StrataRec := closedRecord s.jobNumber s.jmu.clock iv iv.bottom

/-- The state in which the fate of a closing interval is decided. -/
def countClosed (s : State) : State := s.modSlu fun u => { u with closed := u.closed + 1 }

/-- The state after the close of an interval, before the next one opens. -/
def afterFate (s : State) (iv : OpenInterval) : State :=
  ((countClosed s).parcelFate (recordOf s iv)).fire .intervalClosed (.interval iv.number)

theorem closeInterval_eq (s : State) (iv : OpenInterval) :
    s.closeInterval iv =
      (afterFate s iv).modSlu fun u =>
        { u with openIv := some (openedAt (iv.number + 1) iv.bottom u.step (afterFate s iv).ccu.state) } := rfl

theorem Advances.afterFate (s : State) (iv : OpenInterval) : Advances s (afterFate s iv) :=
  (Advances.setIntervals s s.slu.openIv (s.slu.closed + 1)).trans
    ((Advances.parcelFate (countClosed s) (recordOf s iv)).trans (.fire _ _ _))

/-- An interval closed and the next one opened with its part of an advance to `h` (R97). -/
def nextInterval (h : Nat) (s : State) (iv : OpenInterval) : State :=
  (s.closeInterval iv).modSlu fun u =>
    { u with openIv := u.openIv.map fun v => { v with drilled := v.drilled + (min h v.bottom - v.top) } }

/-- The interval opened next, with its part of an advance to `h`. -/
def openedNext (h : Nat) (iv : OpenInterval) (step : Nat) (circ : CircState) : OpenInterval :=
  { openedAt (iv.number + 1) iv.bottom step circ with drilled := min h (iv.bottom + step) - iv.bottom }

theorem nextInterval_eq (h : Nat) (s : State) (iv : OpenInterval) :
    nextInterval h s iv =
      { afterFate s iv with
        slu := { (afterFate s iv).slu with
          openIv := some (openedNext h iv (afterFate s iv).slu.step (afterFate s iv).ccu.state) } } := by
  simp [nextInterval, closeInterval_eq, openedNext, openedAt, State.modSlu]

theorem Advances.nextInterval (h : Nat) (s : State) (iv : OpenInterval) : Advances s (nextInterval h s iv) :=
  nextInterval_eq h s iv ▸ (Advances.afterFate s iv).trans (.setIntervals _ _ _)

theorem closeReached_succ {h fuel : Nat} {s : State} {iv : OpenInterval} (hiv : s.slu.openIv = some iv) (hle : iv.bottom ≤ h) :
    closeReached h (fuel + 1) s = closeReached h fuel (nextInterval h s iv) := by
  rw [closeReached]
  simp only [hiv, hle, if_true]
  rfl

theorem closeReached_of_none {h : Nat} {s : State} (hiv : s.slu.openIv = none) (fuel : Nat) : closeReached h fuel s = s := by
  cases fuel <;> simp [closeReached, hiv]

theorem closeReached_of_lt {h : Nat} {s : State} {iv : OpenInterval} (hiv : s.slu.openIv = some iv) (hlt : h < iv.bottom)
    (fuel : Nat) : closeReached h fuel s = s := by
  cases fuel <;> simp [closeReached, hiv, Nat.not_le.mpr hlt]

theorem Advances.closeReached (h fuel : Nat) : ∀ s : State, Advances s (closeReached h fuel s) := by
  induction fuel with
  | zero => exact fun s => .refl s
  | succ fuel ih =>
    intro s
    cases hiv : s.slu.openIv with
    | none => exact (closeReached_of_none hiv (fuel + 1)).symm ▸ Advances.refl s
    | some iv =>
      rcases Nat.lt_or_ge h iv.bottom with hlt | hle
      · exact (closeReached_of_lt hiv hlt (fuel + 1)).symm ▸ Advances.refl s
      · exact closeReached_succ hiv hle ▸ (Advances.nextInterval h s iv).trans (ih _)

theorem queueOk_nextInterval {h : Nat} {s : State} {iv : OpenInterval} (hq : QueueOk s) (hiv : s.slu.openIv = some iv) :
    QueueOk (nextInterval h s iv) := by
  obtain ⟨hkeys, hold⟩ := (queueOk_iff s).mp hq
  have hfate := keysOk_parcelFate (s := countClosed s) (r := recordOf s iv) hkeys (hold iv hiv)
  rw [nextInterval_eq, queueOk_iff]
  refine ⟨hfate.1, fun v hv => ?_⟩
  cases hv
  exact hfate.2

theorem queueOk_closeReached (h fuel : Nat) : ∀ s : State, QueueOk s → QueueOk (closeReached h fuel s) := by
  induction fuel with
  | zero => exact fun s => id
  | succ fuel ih =>
    intro s hq
    cases hiv : s.slu.openIv with
    | none => exact (closeReached_of_none hiv _).symm ▸ hq
    | some iv =>
      rcases Nat.lt_or_ge h iv.bottom with hlt | hle
      · exact (closeReached_of_lt hiv hlt _).symm ▸ hq
      · exact (closeReached_succ hiv hle).symm ▸ ih _ (queueOk_nextInterval hq hiv)

/-! ### The balance through an advance (R97, R115, R116) -/

/-- The balance of R116 without the orders it rests on: the books of the job, the open interval of an OPEN job, and the
closed books of a CLOSING one. -/
structure Balance (s : State) : Prop where
  books : s.jmu.state ≠ .noJob →
    ∃ id, s.jmu.ident = some id ∧ s.str.hole = id.start + s.jmu.pendingMm + s.jmu.cells.toList.sum
  opened : s.jmu.state = .opened → ∃ iv, s.slu.openIv = some iv ∧ s.str.hole = iv.top + iv.drilled ∧ s.str.hole < iv.bottom
    ∧ s.jmu.pendingMm = iv.drilled + s.risingMm
  closing : ∀ ph, s.jmu.state = .closing ph → s.slu.openIv = none ∧ ∀ p ∈ s.lgu.parcels, p.status = .finalWaiting

/-- In the midst of an advance to `h`: the open interval has its part of it, and all that is drilled past its top is pending
outside the parcels. -/
structure Advancing (h : Nat) (s : State) : Prop where
  hole : s.str.hole = h
  opened : s.jmu.state = .opened
  interval : ∃ iv, s.slu.openIv = some iv ∧ iv.top < iv.bottom ∧ iv.top ≤ h ∧ iv.drilled = min h iv.bottom - iv.top
    ∧ Ledger (h - iv.top) s

theorem balance_of_noJob {s : State} (h : s.jmu.state = .noJob) : Balance s where
  books hne := absurd h hne
  opened ho := by rw [h] at ho; cases ho
  closing ph hc := by rw [h] at hc; cases hc

/-- The balance of an OPEN job from its ledger. -/
theorem Ledger.balance_opened {s : State} {iv : OpenInterval} (h : Ledger iv.drilled s) (ho : s.jmu.state = .opened)
    (hiv : s.slu.openIv = some iv) (hhole : s.str.hole = iv.top + iv.drilled) (hlt : s.str.hole < iv.bottom) : Balance s where
  books _ := h.balance
  opened _ := ⟨iv, hiv, hhole, hlt, h.pending⟩
  closing ph hc := by rw [ho] at hc; cases hc

/-- The advance is at its end when the open interval reaches below the hole. -/
theorem Advancing.balance {h : Nat} {s : State} (ha : Advancing h s)
    (hend : ∀ iv, s.slu.openIv = some iv → h < iv.bottom) : Balance s := by
  obtain ⟨iv, hiv, hspan, htop, hdrilled, hledger⟩ := ha.interval
  have hlt := hend iv hiv
  have hhole := ha.hole
  have hpart : h - iv.top = iv.drilled := by omega
  exact (hpart ▸ hledger).balance_opened ha.opened hiv (by omega) (by omega)

/-- The next interval of an advance. -/
theorem Advancing.next {h : Nat} {s : State} {iv : OpenInterval} (ha : Advancing h s) (hiv : s.slu.openIv = some iv)
    (hle : iv.bottom ≤ h) (hb : BoundsOk s.jmu.tariff.bounds) (hstep : 0 < s.slu.step) (hq : QueueOk s) :
    Advancing h (nextInterval h s iv) := by
  have hadv := Advances.nextInterval h s iv
  have hstr : (nextInterval h s iv).str = s.str := congrArg Rig.str hadv.rig
  have hfate : (afterFate s iv).slu.step = s.slu.step := by rw [(Advances.afterFate s iv).slu]
  obtain ⟨v, hv, hspan, htop, hdrilled, hledger⟩ := ha.interval
  obtain rfl : v = iv := Option.some.inj (hv.symm.trans hiv)
  have hsplit : h - v.top = h - v.bottom + span (recordOf s v) := by
    have : span (recordOf s v) = v.bottom - v.top := rfl
    omega
  rw [hsplit] at hledger
  have hfinal : Ledger (h - v.bottom) ((countClosed s).parcelFate (recordOf s v)) :=
    Ledger.parcelFate (s := countClosed s) ⟨hledger.balance, hledger.pending⟩ hb ((queueOk_iff s).mp hq).1
  refine ⟨by rw [hstr, ha.hole], (ha.opened ▸ hadv.moves).of_opened, ?_⟩
  rw [nextInterval_eq, hfate]
  exact ⟨_, rfl, Nat.lt_add_of_pos_right hstep, hle, rfl, hfinal.balance, hfinal.pending⟩

theorem balance_closeReached (h fuel : Nat) : ∀ s : State, Advancing h s → BoundsOk s.jmu.tariff.bounds → 0 < s.slu.step →
    QueueOk s → (∀ iv, s.slu.openIv = some iv → h < fuel + iv.bottom) → Balance (closeReached h fuel s) := by
  induction fuel with
  | zero => exact fun s ha _ _ _ hfuel => ha.balance fun iv hiv => by simpa using hfuel iv hiv
  | succ fuel ih =>
    intro s ha hb hstep hq hfuel
    cases hiv : s.slu.openIv with
    | none => exact (closeReached_of_none hiv _).symm ▸ ha.balance fun iv h => by rw [hiv] at h; cases h
    | some iv =>
      rcases Nat.lt_or_ge h iv.bottom with hlt | hle
      · refine (closeReached_of_lt hiv hlt _).symm ▸ ha.balance fun v hv => ?_
        obtain rfl : iv = v := Option.some.inj (hiv.symm.trans hv)
        exact hlt
      · rw [closeReached_succ hiv hle]
        have hadv := Advances.nextInterval h s iv
        have hsteps : (nextInterval h s iv).slu.step = s.slu.step := by rw [hadv.slu]
        have htariff : (nextInterval h s iv).jmu.tariff = s.jmu.tariff := by rw [hadv.jmu]
        refine ih _ (ha.next hiv hle hb hstep hq) (htariff ▸ hb) (hsteps ▸ hstep) (queueOk_nextInterval hq hiv)
          fun v hv => ?_
        have hfuel := hfuel iv hiv
        rw [nextInterval_eq, (Advances.afterFate s iv).slu] at hv
        cases hv
        simp only [openedNext, openedAt]
        omega

end Sys2Proof.CirculationProofs
end

section
/-! What a step keeps: the meters, the lift counter, the settings, the order of the cuttings queue and the balance of R116, as
one relation between states that composes. -/

namespace Sys2Proof.CirculationProofs

open Sys2Proof Machine ConnectionProofs

/-! ### The settings: the lines apart from the other eight groups (R143) -/

/-- The live settings but for the lines, which stand at their default here. -/
def config (s : State) : Settings := { s.settings with lines := LineCfg.dflt }

/-- The first eight groups of the live settings, and every stored and waiting image, are in their ranges (R143). -/
def GroupsOk (s : State) : Prop := (config s).ok = true ∧ StoredOk s.rst

/-- The settings of the lines as one group (R143). -/
def lineCfgs (u : FieldUnit) : Vector LineCfg 12 := ⟨(u.lines.toList.map (·.cfg)).toArray, by simp⟩

/-- The lines hold what they may, and exactly FL5 under FL4's ENCODER is claimed (R159 to R161). -/
def LinesOk (u : FieldUnit) : Prop :=
  (∀ i : Fin 12, (u.line i).claimed = (i == 5 && (u.line 4).cfg.fn == .encoder)) ∧ linesOk (lineCfgs u) = true

theorem linesOk_dflt : linesOk LineCfg.dflt = true := by decide

theorem settings_ok_iff (s : State) : s.settings.ok = true ↔ (config s).ok = true ∧ linesOk (lineCfgs s.flu) = true := by
  have hlines : s.settings.lines = lineCfgs s.flu := rfl
  simp only [Settings.ok, config, linesOk_dflt, Bool.and_true, ← hlines, Bool.and_eq_true]
  exact Iff.rfl

theorem settingsOk_iff (s : State) : SettingsOk s ↔ LinesOk s.flu ∧ GroupsOk s := by
  unfold SettingsOk LinesOk GroupsOk StoredOk
  rw [settings_ok_iff]
  tauto

theorem balanceOk_iff (s : State) : BalanceOk s ↔ SettingsOk s ∧ QueueOk s ∧ Balance s :=
  ⟨fun ⟨hs, hq, h1, h2, h3⟩ => ⟨hs, hq, h1, h2, h3⟩, fun ⟨hs, hq, h1, h2, h3⟩ => ⟨hs, hq, h1, h2, h3⟩⟩

/-- The bounds of the tariff table rise from 0 and the interval step is positive (R96, R125). -/
theorem GroupsOk.bounds {s : State} (h : GroupsOk s) : BoundsOk s.jmu.tariff.bounds ∧ 0 < s.slu.step := by
  have hok := h.1
  simp only [Settings.ok, Tariff.ok, config, State.settings, Bool.and_eq_true, inRange_iff, beq_iff_eq] at hok
  exact ⟨⟨by tauto, by tauto⟩, by omega⟩

/-! ### The figures an operation may leave -/

/-- What the order of the queue and the balance read of a parcel: interval, effective target, whether it is under
construction, and its millimetres. -/
def parcelFigures (p : Parcel) : Nat × Nat × Bool × Nat :=
  (p.record.interval, p.eff, p.status != .finalWaiting, span p.record)

/-- What they read of the open interval. -/
def intervalFigures (v : OpenInterval) : Nat × Nat × Nat × Nat := (v.number, v.top, v.bottom, v.drilled)

/-- The figures on which the order of the queue and the balance rest. -/
structure Books where
  state : JobState
  ident : Option JobIdent
  pendingMm : Nat
  cells : Vector Nat 24
  hole : Nat
  parcels : List (Nat × Nat × Bool × Nat)
  openIv : Option (Nat × Nat × Nat × Nat)

/-- The books of a state. -/
def books (s : State) : Books :=
  { state := s.jmu.state, ident := s.jmu.ident, pendingMm := s.jmu.pendingMm, cells := s.jmu.cells, hole := s.str.hole
    parcels := s.lgu.parcels.map parcelFigures, openIv := s.slu.openIv.map intervalFigures }

/-- The clock and the meters. -/
def metered (s : State) : Nat × Vector Nat 7 := (s.jmu.clock, s.jmu.meters)

/-- The lift counter and the pumped volumes. -/
def volumes (s : State) : Nat × Nat × Nat := (s.ccu.lift, s.ccu.p1.vol, s.ccu.p2.vol)

theorem queueKeys_books (s : State) : queueKeys s.lgu = (books s).parcels.map fun k => (k.1, k.2.1) := by
  simp [queueKeys, books, parcelFigures]

theorem risingMm_books (s : State) :
    s.risingMm = (((books s).parcels.filter (·.2.2.1)).map (·.2.2.2)).sum := by
  simp only [State.risingMm, books, List.filter_map, List.map_map]
  rfl

theorem allFinal_books (s : State) :
    (∀ p ∈ s.lgu.parcels, p.status = .finalWaiting) ↔ ∀ k ∈ (books s).parcels, k.2.2.1 = false := by
  simp [books, parcelFigures]

theorem metersOk_of_metered {s t : State} (hstate : t.jmu.state = s.jmu.state) (h : metered t = metered s)
    (hs : MetersOk s) : MetersOk t := by
  simp only [metered, Prod.mk.injEq] at h
  unfold MetersOk
  rw [hstate, h.1, h.2]
  exact hs

theorem liftOk_of_volumes {s t : State} (h : volumes t = volumes s) (hs : LiftOk s) : LiftOk t := by
  simp only [volumes, Prod.mk.injEq] at h
  unfold LiftOk
  rw [h.1, h.2.1, h.2.2]
  exact hs

theorem openIv_of_books {s t : State} (h : books t = books s) {v : OpenInterval} (hv : t.slu.openIv = some v) :
    ∃ w, s.slu.openIv = some w ∧ intervalFigures w = intervalFigures v := by
  have hiv : t.slu.openIv.map intervalFigures = s.slu.openIv.map intervalFigures := congrArg Books.openIv h
  rw [hv, Option.map_some, eq_comm] at hiv
  exact Option.map_eq_some_iff.mp hiv

theorem queueOk_of_books {s t : State} (h : books t = books s) (hs : QueueOk s) : QueueOk t := by
  rw [queueOk_iff, queueKeys_books] at hs ⊢
  rw [h]
  refine ⟨hs.1, fun v hv => ?_⟩
  obtain ⟨w, hw, hfig⟩ := openIv_of_books h hv
  have hnumber : w.number = v.number := congrArg Prod.fst hfig
  exact hnumber ▸ hs.2 w hw

theorem balance_of_books {s t : State} (h : books t = books s) (hs : Balance s) : Balance t := by
  have hrising : t.risingMm = s.risingMm := by rw [risingMm_books, h, ← risingMm_books]
  have hfinal := (allFinal_books t).trans (h ▸ (allFinal_books s).symm)
  have hiv := fun {v} => openIv_of_books (v := v) h.symm
  have hnone : s.slu.openIv = none → t.slu.openIv = none := fun hn => by
    have := congrArg Books.openIv h
    simpa [books, hn] using this
  simp only [books, Books.mk.injEq] at h
  obtain ⟨hstate, hident, hpending, hcells, hhole, -⟩ := h
  constructor
  · rw [hstate, hident, hpending, hcells, hhole]
    exact hs.books
  · rw [hstate, hpending, hhole, hrising]
    intro ho
    obtain ⟨v, hv, hrest⟩ := hs.opened ho
    obtain ⟨w, hw, hfig⟩ := hiv hv
    simp only [intervalFigures, Prod.mk.injEq] at hfig
    obtain ⟨-, htop, hbottom, hdrilled⟩ := hfig
    exact ⟨w, hw, by rw [htop, hbottom, hdrilled]; exact hrest⟩
  · intro ph hc
    obtain ⟨h1, h2⟩ := hs.closing ph (hstate ▸ hc)
    exact ⟨hnone h1, hfinal.mpr h2⟩

/-! ### The relation -/

/-- From `s` to `t` the meters, the lift counter, the first eight groups of settings, the queue and the balance are kept. -/
structure KeepsBooks (s t : State) : Prop where
  meters : MetersOk s → MetersOk t
  lift : LiftOk s → LiftOk t
  groups : GroupsOk s → GroupsOk t
  queue : QueueOk s → QueueOk t
  balance : GroupsOk s → QueueOk s → Balance s → Balance t

/-- And so are the lines. -/
structure Keeps (s t : State) : Prop extends KeepsBooks s t where
  lines : LinesOk s.flu → LinesOk t.flu

theorem KeepsBooks.trans {s t u : State} (h : KeepsBooks s t) (h' : KeepsBooks t u) : KeepsBooks s u :=
  ⟨h'.meters ∘ h.meters, h'.lift ∘ h.lift, h'.groups ∘ h.groups, h'.queue ∘ h.queue,
    fun hg hq hb => h'.balance (h.groups hg) (h.queue hq) (h.balance hg hq hb)⟩

theorem Keeps.trans {s t u : State} (h : Keeps s t) (h' : Keeps t u) : Keeps s u :=
  ⟨h.toKeepsBooks.trans h'.toKeepsBooks, h'.lines ∘ h.lines⟩

theorem Keeps.refl (s : State) : Keeps s s := ⟨⟨id, id, id, id, fun _ _ => id⟩, id⟩

/-- An operation that leaves the books keeps the queue and the balance. -/
theorem KeepsBooks.of_books {s t : State} (h : books t = books s) (hm : MetersOk s → MetersOk t)
    (hl : LiftOk s → LiftOk t) (hg : GroupsOk s → GroupsOk t) : KeepsBooks s t :=
  ⟨hm, hl, hg, queueOk_of_books h, fun _ _ => balance_of_books h⟩

/-- A line's function, polarity and filter, and whether it is claimed. -/
def lineSettings (u : FieldUnit) (i : Fin 12) : LineCfg × Bool := ((u.line i).cfg, (u.line i).claimed)

theorem lineCfgs_eq (u : FieldUnit) : lineCfgs u = Vector.ofFn fun i => (u.line i).cfg := by
  apply Vector.toList_inj.mp
  simp only [lineCfgs, Vector.toList_mk]
  apply List.ext_getElem <;> simp [FieldUnit.line]

theorem linesOk_of_lineSettings {u v : FieldUnit} (h : lineSettings v = lineSettings u) (hu : LinesOk u) : LinesOk v := by
  have hcfg : ∀ i, (v.line i).cfg = (u.line i).cfg := fun i => congrArg Prod.fst (congrFun h i)
  have hclaimed : ∀ i, (v.line i).claimed = (u.line i).claimed := fun i => congrArg Prod.snd (congrFun h i)
  unfold LinesOk at hu ⊢
  simp only [lineCfgs_eq, hcfg, hclaimed] at hu ⊢
  exact hu

theorem groupsOk_of_config {s t : State} (hc : config t = config s) (hslots : t.rst.areas.settings = s.rst.areas.settings)
    (hqueue : t.rst.queue = s.rst.queue) (h : GroupsOk s) : GroupsOk t := by
  unfold GroupsOk StoredOk
  rw [hc, hslots, hqueue]
  exact h

/-- All that the invariants read of a state. -/
structure View where
  books : Books
  metered : Nat × Vector Nat 7
  volumes : Nat × Nat × Nat
  config : Settings
  slots : ImageArea Settings
  queue : List Entry
  lines : Fin 12 → LineCfg × Bool

/-- What the invariants read of a state. -/
def view (s : State) : View :=
  { books := books s, metered := metered s, volumes := volumes s, config := config s, slots := s.rst.areas.settings
    queue := s.rst.queue, lines := lineSettings s.flu }

/-- An operation that changes nothing of it keeps everything. -/
theorem Keeps.of_view {s t : State} (h : view t = view s) : Keeps s t := by
  simp only [view, View.mk.injEq] at h
  obtain ⟨hbooks, hmetered, hvolumes, hconfig, hslots, hqueue, hlines⟩ := h
  exact ⟨.of_books hbooks (metersOk_of_metered (congrArg Books.state hbooks) hmetered) (liftOk_of_volumes hvolumes)
    (groupsOk_of_config hconfig hslots hqueue), linesOk_of_lineSettings hlines⟩

end Sys2Proof.CirculationProofs
end

section
/-! What the record path, an advance of the hole, a rise of the lift counter, a stroke and a tick keep. -/

namespace Sys2Proof.CirculationProofs

open Sys2Proof Machine ConnectionProofs

/-! ### Departures and final records -/

theorem Advances.config {s t : State} (h : Advances s t) : config t = config s := by
  obtain ⟨-, -, hstr, -, hccu⟩ := (rig_eq_iff _ _).mp h.rig
  unfold CirculationProofs.config State.settings
  rw [hstr, hccu, h.lgu, h.slu, h.jmu]

theorem Advances.meters {s t : State} (h : Advances s t) (hm : MetersOk s) : MetersOk t := fun ho => by
  rw [h.jmu]
  exact hm (h.moves.opened ho)

theorem Advances.lift {s t : State} (h : Advances s t) (hl : LiftOk s) : LiftOk t := by
  have hccu : t.ccu = s.ccu := congrArg Rig.ccu h.rig
  unfold LiftOk at hl ⊢
  rw [hccu]
  exact hl

theorem Advances.groups {s t : State} (h : Advances s t) (hg : GroupsOk s) : GroupsOk t :=
  ⟨h.config.symm ▸ hg.1, h.stored hg.2⟩

theorem Advances.lines {s t : State} (h : Advances s t) (hl : LinesOk s.flu) : LinesOk t.flu := by
  have hflu : t.flu = s.flu := congrArg Rig.flu h.rig
  exact hflu.symm ▸ hl

/-- What records and intervals do keeps the meters, the lift counter and the settings. -/
theorem Keeps.of_advances {s t : State} (h : Advances s t) (hq : QueueOk s → QueueOk t)
    (hb : GroupsOk s → QueueOk s → Balance s → Balance t) : Keeps s t := ⟨⟨h.meters, h.lift, h.groups, hq, hb⟩, h.lines⟩

theorem queueOk_of_keys {s t : State} (hkeys : (queueKeys t.lgu).Sublist (queueKeys s.lgu))
    (hiv : t.slu.openIv = s.slu.openIv) (h : QueueOk s) : QueueOk t := by
  rw [queueOk_iff] at h ⊢
  rw [hiv]
  exact ⟨h.1.sublist hkeys, fun iv hv => (h.2 iv hv).sublist hkeys⟩

theorem Finals.queueOk {recs : List StrataRec} {s t : State} (h : Finals recs s t) (hq : QueueOk s) : QueueOk t :=
  queueOk_of_keys h.keys (by rw [h.slu]) hq

/-- Departures keep everything: no figure moves, and no parcel under construction leaves. -/
theorem Keeps.of_departs {s t : State} (h : Departs (intervals s.lgu).Nodup s t) : Keeps s t := by
  refine .of_advances h.finals.advances h.finals.queueOk fun _ hq hb => ?_
  have hrising : t.risingMm = s.risingMm := by
    rw [risingMm_eq, risingMm_eq, h.unfinal ((queueOk_iff s).mp hq).1.nodup]
  have hstr : t.str = s.str := congrArg Rig.str h.rig
  constructor
  · intro hne
    rw [hstr, h.jmu]
    exact hb.books (h.moves.ne_noJob hne)
  · intro ho
    rw [hstr, hrising, h.jmu, h.slu]
    exact hb.opened (h.moves.opened ho)
  · intro ph hc
    obtain ⟨ph', hs⟩ := h.moves.closing hc
    obtain ⟨hnone, hfinal⟩ := hb.closing ph' hs
    rw [h.slu]
    exact ⟨hnone, fun p hp => hfinal p (h.parcels.subset hp)⟩

/-- A record of this interval and span is under construction in the queue. -/
def Fits (u : LagUnit) (r : StrataRec) : Prop :=
  ∃ p ∈ unfinal u, r.interval = p.record.interval ∧ span r = span p.record

/-- With an OPEN job the balance is the ledger of what is drilled in the open interval. -/
theorem Balance.ledger {s : State} (h : Balance s) {iv : OpenInterval} (ho : s.jmu.state = .opened)
    (hiv : s.slu.openIv = some iv) : Ledger iv.drilled s := by
  obtain ⟨v, hv, -, -, hpending⟩ := h.opened ho
  obtain rfl : v = iv := Option.some.inj (hv.symm.trans hiv)
  exact ⟨h.books (by rw [ho]; nofun), hpending⟩

/-- While a job is CLOSING no record is under construction. -/
theorem Balance.not_fits {s : State} (h : Balance s) {ph : Phase} (hc : s.jmu.state = .closing ph) (r : StrataRec) :
    ¬ Fits s.lgu r := by
  rintro ⟨p, hp, -⟩
  obtain ⟨hmem, hstatus⟩ := List.mem_filter.mp hp
  simp [(h.closing ph hc).2 p hmem] at hstatus

/-- Final records keep the balance of an OPEN job if they keep its ledger. -/
theorem Finals.balance {recs : List StrataRec} {s t : State} (hf : Finals recs s t) (ho : s.jmu.state = .opened)
    (hb : Balance s) (hledger : ∀ x, Ledger x s → Ledger x t) : Balance t := by
  obtain ⟨iv, hiv, hhole, hlt, -⟩ := hb.opened ho
  have hl := hledger _ (hb.ledger ho hiv)
  have hstr : t.str = s.str := congrArg Rig.str hf.rig
  have hiv' : t.slu.openIv = some iv := by rw [hf.slu]; exact hiv
  exact hl.balance_opened (ho ▸ hf.moves).of_opened hiv' (hstr ▸ hhole) (hstr ▸ hlt)

/-- Records of parcels under construction becoming final keep the balance, in whatever state the job is. -/
theorem balance_of_fits {recs : List StrataRec} {s t : State} (hf : Finals recs s t) (hb : Balance s)
    (hfits : ∀ r ∈ recs, Fits s.lgu r) (hnil : recs = [] → Balance t)
    (hledger : ∀ x, Ledger x s → Ledger x t) : Balance t := by
  cases hstate : s.jmu.state with
  | opened => exact hf.balance hstate hb hledger
  | noJob => exact balance_of_noJob (hstate ▸ hf.moves).of_noJob
  | closing ph =>
    cases recs with
    | nil => exact hnil rfl
    | cons r recs => exact absurd (hfits r List.mem_cons_self) (hb.not_fits hstate r)

/-- The record of a parcel under construction becomes final. -/
theorem Keeps.finishParcel {s : State} {r : StrataRec} (hfits : Fits s.lgu r) : Keeps s (s.finishParcel r) := by
  have hf := finals_finishParcel s r
  refine .of_advances hf.advances hf.queueOk fun hg hq hb => ?_
  refine balance_of_fits hf hb (by simpa using hfits) nofun fun x hl => ?_
  obtain ⟨p, hp, hn, hspan⟩ := hfits
  exact hl.finishParcel hg.bounds.1 ((queueOk_iff s).mp hq).1.nodup hp hn hspan

/-! ### Parcels made final in turn (R84, R92) -/

/-- An operation that makes a record of the queue final without a sample, but for what it fires first. -/
def MakesFinal (f : State → StrataRec → State) (st : SampleStatus) : Prop :=
  ∀ s r, ∃ links, f s r = ({ s with liu := links } : State).finishParcel (r.unsampled st)

section
variable {f : State → StrataRec → State} {st : SampleStatus}

theorem MakesFinal.finals (hf : MakesFinal f st) (s : State) (r : StrataRec) : Finals [r.unsampled st] s (f s r) := by
  obtain ⟨links, heq⟩ := hf s r
  have h := finals_finishParcel { s with liu := links } (r.unsampled st)
  rw [heq]
  exact ⟨h.rig, h.jmu, h.moves, h.lgu, h.slu, h.keys, h.stored, h.failed, h.ends⟩

theorem MakesFinal.finals_foldl (hf : MakesFinal f st) (l : List StrataRec) : ∀ s : State,
    Finals (l.map fun r => r.unsampled st) s (l.foldl f s) := by
  induction l with
  | nil => exact fun s => (Departs.refl (N := False) s).finals
  | cons r l ih => exact fun s => (hf.finals s r).trans (ih _)

/-- A record that fits still fits once another interval's has become final. -/
theorem Fits.other (hf : MakesFinal f st) {s : State} {r r' : StrataRec} (hnodup : (intervals s.lgu).Nodup)
    (hne : r'.interval ≠ r.interval) (h : Fits s.lgu r') : Fits (f s r).lgu r' := by
  obtain ⟨p, hp, hn, hspan⟩ := h
  obtain ⟨links, heq⟩ := hf s r
  have hunfinal := unfinal_finishParcel (s := { s with liu := links }) hnodup (r.unsampled st)
  refine ⟨p, ?_, hn, hspan⟩
  rw [heq, hunfinal]
  exact List.mem_filter.mpr ⟨hp, by simpa [StrataRec.unsampled, ← hn] using hne⟩

/-- Records made final in turn keep the ledger. -/
theorem Ledger.foldl (hf : MakesFinal f st) {x : Nat} (l : List StrataRec) : ∀ s : State, Ledger x s →
    BoundsOk s.jmu.tariff.bounds → (intervals s.lgu).Nodup → (l.map (·.interval)).Nodup → (∀ r ∈ l, Fits s.lgu r) →
    Ledger x (l.foldl f s) := by
  induction l with
  | nil => exact fun _ h _ _ _ _ => h
  | cons r l ih =>
    intro s h hb hnodup hdistinct hfits
    have hfin := hf.finals s r
    have htariff : (f s r).jmu.tariff = s.jmu.tariff := by rw [hfin.advances.jmu]
    simp only [List.map_cons, List.nodup_cons, List.mem_map, not_exists, not_and] at hdistinct
    refine ih _ ?_ (htariff ▸ hb) (hfin.nodup hnodup) hdistinct.2 fun r' hr' =>
      (hfits r' (List.mem_cons_of_mem _ hr')).other hf hnodup (hdistinct.1 r' hr')
    obtain ⟨p, hp, hn, hspan⟩ := hfits r List.mem_cons_self
    obtain ⟨links, heq⟩ := hf s r
    exact heq ▸ Ledger.finishParcel (s := { s with liu := links }) (r := r.unsampled st) ⟨h.balance, h.pending⟩ hb hnodup
      hp hn hspan

end

/-! ### Window expiry (R84, R85) -/

theorem makesFinal_expire : MakesFinal State.expire .missed := fun _ _ => ⟨_, rfl⟩

theorem fits_of_mem {u : LagUnit} {p : Parcel} (hp : p ∈ u.parcels) (hstatus : p.status ≠ .finalWaiting) :
    Fits u p.record := ⟨p, List.mem_filter.mpr ⟨hp, by simpa using hstatus⟩, rfl, rfl⟩

theorem Keeps.windowExpiry (s : State) : Keeps s s.windowExpiry := by
  have hf := makesFinal_expire.finals_foldl s.expiring s
  have hfits : ∀ r ∈ s.expiring, Fits s.lgu r := by
    intro r hr
    obtain ⟨p, hp, rfl⟩ := List.mem_map.mp hr
    obtain ⟨hmem, hdue⟩ := List.mem_filter.mp hp
    have hdue : p.status = .due := by
      rw [Bool.and_eq_true, beq_iff_eq] at hdue
      exact hdue.1
    exact fits_of_mem hmem (by rw [hdue]; nofun)
  refine .of_advances hf.advances hf.queueOk fun hg hq hb => ?_
  have hnodup := ((queueOk_iff s).mp hq).1.nodup
  have hdistinct : (s.expiring.map (·.interval)).Nodup := by
    rw [State.expiring, List.map_map]
    exact hnodup.sublist (List.filter_sublist.map _)
  refine balance_of_fits hf hb ?_ (fun hnil => ?_) fun x hl => hl.foldl makesFinal_expire _ _ hg.bounds.1 hnodup hdistinct hfits
  · simp only [List.mem_map, forall_exists_index, and_imp, forall_apply_eq_imp_iff₂]
    exact fun r hr => hfits r hr
  · rw [State.windowExpiry, List.map_eq_nil_iff.mp hnil]
    exact hb

/-! ### Due detection (R83, R84) -/

/-- An adjustment of an interval's parcel that leaves its figures leaves all that the invariants read. -/
theorem view_modParcel {s : State} {n : Nat} {f : Parcel → Parcel}
    (hf : ∀ p ∈ s.lgu.parcels, p.record.interval = n → parcelFigures (f p) = parcelFigures p) :
    view (s.modParcel n f) = view s := by
  have hmap : (s.modParcel n f).lgu.parcels.map parcelFigures = s.lgu.parcels.map parcelFigures := by
    simp only [State.modParcel, State.modLgu, List.map_map]
    refine List.map_congr_left fun p hp => ?_
    by_cases h : p.record.interval = n
    · simp only [Function.comp, h, if_true, hf p hp h]
    · simp only [Function.comp, h, if_false]
  simp only [view, books, hmap]
  rfl

theorem queueKeys_becomeDue (s : State) (n : Nat) : queueKeys (s.becomeDue n).lgu = queueKeys s.lgu := by
  simp only [State.becomeDue, State.fire_lgu, State.modParcel, State.modLgu_lgu, queueKeys, List.map_map]
  refine List.map_congr_left fun p _ => ?_
  by_cases h : p.record.interval = n <;> simp [h]

theorem Advances.becomeDue (s : State) (n : Nat) : Advances s (s.becomeDue n) := ⟨rfl, rfl, .inl rfl, rfl, rfl, id⟩

theorem advances_becomeDueAll (l : List Nat) : ∀ s : State,
    Advances s (l.foldl State.becomeDue s) ∧ queueKeys (l.foldl State.becomeDue s).lgu = queueKeys s.lgu
      ∧ (l.foldl State.becomeDue s).slu.openIv = s.slu.openIv := by
  induction l with
  | nil => exact fun s => ⟨.refl s, rfl, rfl⟩
  | cons n l ih =>
    intro s
    obtain ⟨hadv, hkeys, hiv⟩ := ih (s.becomeDue n)
    exact ⟨(Advances.becomeDue s n).trans hadv, hkeys.trans (queueKeys_becomeDue s n), hiv⟩

/-- No parcel of this interval is final. -/
def Unfinished (u : LagUnit) (n : Nat) : Prop := ∀ p ∈ u.parcels, p.record.interval = n → p.status ≠ .finalWaiting

/-- Parcels under construction that become DUE stay under construction. -/
theorem books_becomeDueAll (l : List Nat) : ∀ s : State, (∀ n ∈ l, Unfinished s.lgu n) →
    books (l.foldl State.becomeDue s) = books s := by
  induction l with
  | nil => exact fun _ _ => rfl
  | cons n l ih =>
    intro s h
    have hview : view (s.modParcel n fun p => { p with status := .due, windowEnd := some (p.eff + s.lgu.sampleWindow) }) =
        view s := view_modParcel fun p hp hn => by
      have hbuilding : (p.status != .finalWaiting) = true := bne_iff_ne.mpr (h n List.mem_cons_self p hp hn)
      simp [parcelFigures, hbuilding]
    refine (ih (s.becomeDue n) fun m hm => ?_).trans (congrArg View.books hview)
    intro q hq hqm
    obtain ⟨p, hp, rfl⟩ := List.mem_map.mp (show q ∈ s.lgu.parcels.map _ from hq)
    by_cases hn : p.record.interval = n
    · simp [hn]
    · simp only [hn, if_false] at hqm ⊢
      exact h m (List.mem_cons_of_mem _ hm) p hp hqm

theorem Keeps.dueDetection (s : State) : Keeps s s.dueDetection := by
  obtain ⟨hadv, hkeys, hiv⟩ := advances_becomeDueAll s.reaching s
  refine Keeps.trans (t := s.reaching.foldl State.becomeDue s) ?_ (.of_view rfl)
  refine .of_advances hadv (queueOk_of_keys (hkeys ▸ .refl _) hiv) fun _ hq => ?_
  refine balance_of_books (books_becomeDueAll _ _ fun n hn p hp hpn => ?_)
  obtain ⟨q, hq', rfl⟩ := List.mem_map.mp hn
  obtain ⟨hmem, hstatus⟩ := List.mem_filter.mp hq'
  rw [Bool.and_eq_true, beq_iff_eq] at hstatus
  rw [List.inj_on_of_nodup_map ((queueOk_iff s).mp hq).1.nodup hp hmem hpn, hstatus.1]
  nofun

/-- A rise of the lift counter is examined (R84). -/
theorem Keeps.liftRose (s : State) : Keeps s s.liftRose := (Keeps.windowExpiry s).trans (.dueDetection _)

/-! ### Advances of the hole (R17) -/

/-- The state of an advance to the bit depth before the Strata Log Unit takes it: the hole deeper, the pending more. -/
def deepened (s : State) : State :=
  (s.modStr fun u => { u with hole := u.d }).meterAdvance (s.str.d - s.str.hole)

theorem advanceHole_eq (s : State) :
    s.advanceHole = (deepened s).strataAdvance (s.str.d - s.str.hole) s.str.d := rfl

/-- The open interval with its part of an advance (R97). -/
def withPart (s : State) (iv : OpenInterval) : State :=
  let part := if iv.bottom ≤ s.str.d then iv.bottom - (s.str.d - (s.str.d - s.str.hole)) else s.str.d - s.str.hole
  (deepened s).modSlu fun u => { u with openIv := some { iv with drilled := iv.drilled + part } }

theorem advanceHole_of_opened {s : State} {iv : OpenInterval} (ho : s.jmu.state = .opened) (hiv : s.slu.openIv = some iv) :
    s.advanceHole = closeReached s.str.d (s.str.d + 1 - iv.bottom) (withPart s iv) := by
  have ho' : (deepened s).jmu.state = .opened := ho
  have hiv' : (deepened s).slu.openIv = some iv := hiv
  rw [advanceHole_eq, State.strataAdvance, ho', hiv']
  rfl

theorem advanceHole_of_idle {s : State} (h : s.jmu.state ≠ .opened ∨ s.slu.openIv = none) :
    s.advanceHole = deepened s := by
  rw [advanceHole_eq, State.strataAdvance]
  split
  next ho hiv => exact absurd (show s.slu.openIv = _ from hiv) (by rcases h with h | h; exact absurd ho h; simp [h])
  next => rfl

theorem queueOk_withPart {s : State} {iv : OpenInterval} (hq : QueueOk s) (hiv : s.slu.openIv = some iv) :
    QueueOk (withPart s iv) := by
  rw [queueOk_iff] at hq ⊢
  refine ⟨hq.1, fun v hv => ?_⟩
  cases hv
  exact hq.2 iv hiv

theorem Advances.advanceHole (s : State) : Advances (deepened s) s.advanceHole := by
  by_cases ho : s.jmu.state = .opened
  · cases hiv : s.slu.openIv with
    | none => exact (advanceHole_of_idle (.inr hiv)).symm ▸ .refl _
    | some iv =>
      rw [advanceHole_of_opened ho hiv]
      exact (Advances.setIntervals _ _ _).trans (.closeReached _ _ _)
  · exact (advanceHole_of_idle (.inl ho)).symm ▸ .refl _

theorem queueOk_advanceHole {s : State} (hq : QueueOk s) : QueueOk s.advanceHole := by
  by_cases ho : s.jmu.state = .opened
  · cases hiv : s.slu.openIv with
    | none => exact (advanceHole_of_idle (.inr hiv)).symm ▸ hq
    | some iv =>
      rw [advanceHole_of_opened ho hiv]
      exact queueOk_closeReached _ _ _ (queueOk_withPart hq hiv)
  · exact (advanceHole_of_idle (.inl ho)).symm ▸ hq

/-- The balance holds again at the end of an advance (R97, R115, R116). -/
theorem balance_advanceHole {s : State} (hle : s.str.hole ≤ s.str.d) (hg : GroupsOk s) (hq : QueueOk s) (hb : Balance s) :
    Balance s.advanceHole := by
  cases hstate : s.jmu.state with
  | noJob =>
    rw [advanceHole_of_idle (.inl (by rw [hstate]; nofun))]
    exact balance_of_noJob hstate
  | closing ph =>
    rw [advanceHole_of_idle (.inl (by rw [hstate]; nofun))]
    have hpending : (deepened s).jmu.pendingMm = s.jmu.pendingMm + (s.str.d - s.str.hole) := by
      simp [deepened, State.meterAdvance, hstate]
    refine ⟨fun _ => ?_, fun ho => absurd (hstate.symm.trans ho) nofun, fun ph' hc => hb.closing ph' hc⟩
    obtain ⟨id, hid, hhole⟩ := hb.books (by rw [hstate]; nofun)
    have hcells : (deepened s).jmu.cells = s.jmu.cells := rfl
    refine ⟨id, hid, ?_⟩
    rw [hpending, hcells]
    show s.str.d = _
    omega
  | opened =>
    obtain ⟨iv, hiv, hhole, hlt, hpend⟩ := hb.opened hstate
    obtain ⟨id, hid, hbooks⟩ := hb.books (by rw [hstate]; nofun)
    have hpending : (withPart s iv).jmu.pendingMm = s.jmu.pendingMm + (s.str.d - s.str.hole) := by
      simp [withPart, deepened, State.meterAdvance, hstate]
    have hcells : (withPart s iv).jmu.cells = s.jmu.cells := rfl
    have hrising : (withPart s iv).risingMm = s.risingMm := rfl
    have hdepth : (withPart s iv).str.hole = s.str.d := rfl
    rw [advanceHole_of_opened hstate hiv]
    have hadvancing : Advancing s.str.d (withPart s iv) := by
      refine ⟨rfl, hstate, _, rfl, by simp; omega, by simp; omega, ?_, ⟨id, hid, ?_⟩, ?_⟩
      · simp only
        split <;> omega
      · rw [hdepth, hpending, hcells]
        omega
      · rw [hpending, hrising]
        simp only
        omega
    refine balance_closeReached _ _ _ hadvancing hg.bounds.1 hg.bounds.2 (queueOk_withPart hq hiv) fun v hv => ?_
    cases hv
    simp only
    omega

theorem Keeps.advanceHole {s : State} (hle : s.str.hole ≤ s.str.d) : Keeps s s.advanceHole where
  meters hm := (Advances.advanceHole s).meters hm
  lift hl := (Advances.advanceHole s).lift hl
  groups hg := (Advances.advanceHole s).groups hg
  queue := queueOk_advanceHole
  balance := balance_advanceHole hle
  lines hl := (Advances.advanceHole s).lines hl

end Sys2Proof.CirculationProofs
end

section
/-! What firings, depths, pins, windows, strokes and ticks keep. -/

namespace Sys2Proof.CirculationProofs

open Sys2Proof Machine ConnectionProofs

/-! ### Operations that the invariants do not see -/

@[simp] theorem view_fire (s : State) (c : Cond) (x : Content) : view (s.fire c x) = view s := rfl

@[simp] theorem view_fireLevel (s : State) (c : Cond) (was now : Bool) : view (s.fireLevel c was now) = view s := by
  rw [State.fireLevel_eq]
  rfl

@[simp] theorem view_modLink (s : State) (ln : Link) (f : LinkRec → LinkRec) : view (s.modLink ln f) = view s := rfl

@[simp] theorem view_sayOn (s : State) (ln : Link) (kind tag : Nat) (st : Status) :
    view (s.sayOn ln kind tag st) = view s := rfl

@[simp] theorem view_discardFrame (s : State) (ln : Link) (c : FrameCause) : view (s.discardFrame ln c) = view s := rfl

@[simp] theorem view_passTime (s : State) (dt : Nat) : view (s.passTime dt) = view s := rfl

@[simp] theorem view_timeTo (s : State) (t : Nat) : view (s.timeTo t) = view s := rfl

@[simp] theorem view_modCxu (s : State) (f : ConnUnit → ConnUnit) : view (s.modCxu f) = view s := rfl

@[simp] theorem view_answer (s : State) (ln : Link) (kind tag : Nat) (a : Answer) : view (s.answer ln kind tag a) = view s := by
  cases a <;> rfl

/-- A change of the line records that leaves their settings. -/
theorem view_modFlu {s : State} {f : FieldUnit → FieldUnit} (h : lineSettings (f s.flu) = lineSettings s.flu) :
    view (s.modFlu f) = view s := congrArg (fun l => { view s with lines := l }) h

theorem lineSettings_putLine {u : FieldUnit} {i : Fin 12} {r : LineRec} (hcfg : r.cfg = (u.line i).cfg)
    (hclaimed : r.claimed = (u.line i).claimed) : lineSettings (u.putLine i r) = lineSettings u := by
  funext j
  by_cases h : j = i
  · subst h
    simp [lineSettings, hcfg, hclaimed]
  · simp [lineSettings, FieldUnit.line_putLine_ne u r h]

/-- The settings and the hole depth of the String Table Unit. -/
def stringFigures (u : StringUnit) : Nat × Vector (Option RodClass) 4 × Nat × Nat := (u.hole, u.classes, u.cpm, u.tol)

/-- A change of rods, string, depths above the hole, slips or offset. -/
theorem view_modStr {s : State} {f : StringUnit → StringUnit} (h : stringFigures (f s.str) = stringFigures s.str) :
    view (s.modStr f) = view s := by
  simp only [stringFigures, Prod.mk.injEq] at h
  obtain ⟨hhole, hclasses, hcpm, htol⟩ := h
  simp only [view, books, config, State.settings, State.modStr, hhole, hclasses, hcpm, htol]
  rfl

/-- A change of the store that leaves its settings images. -/
theorem view_modRst {s : State} {f : Store → Store} (hslots : (f s.rst).areas.settings = s.rst.areas.settings)
    (hqueue : (f s.rst).queue = s.rst.queue) : view (s.modRst f) = view s := by
  simp only [view, State.modRst, hslots, hqueue]
  rfl

/-- The volumes and the settings of the Circulation Unit. -/
def circFigures (u : CircUnit) : (Nat × Nat × Nat) × PumpConst × PumpConst × CircLimits :=
  ((u.lift, u.p1.vol, u.p2.vol), u.p1.const, u.p2.const, u.limits)

/-- A change of the window, the circulation state or the running of pumps. -/
theorem view_modCcu {s : State} {f : CircUnit → CircUnit} (h : circFigures (f s.ccu) = circFigures s.ccu) :
    view (s.modCcu f) = view s := by
  simp only [circFigures, Prod.mk.injEq] at h
  obtain ⟨⟨hlift, hvol1, hvol2⟩, hconst1, hconst2, hlimits⟩ := h
  simp only [view, volumes, config, State.settings, State.modCcu, hlift, hvol1, hvol2, hconst1, hconst2, hlimits]
  rfl

/-- A change of the open interval's seconds, worst state, strike or notes. -/
theorem view_setIntervals {s : State} {iv : Option OpenInterval} {closed : Nat}
    (h : iv.map intervalFigures = s.slu.openIv.map intervalFigures) :
    view { s with slu := { s.slu with openIv := iv, closed } } = view s := by
  simp only [view, books, h]
  rfl

/-! ### Connections -/

@[simp] theorem view_setConn (s : State) (c : ConnState) : view (s.setConn c) = view s := by simp [setConn_eq]

@[simp] theorem view_connReleased (s : State) : view s.connReleased = view s := by
  unfold State.connReleased
  split <;> simp [State.enterFault]

@[simp] theorem view_connStroke (s : State) (p : PumpId) : view (s.connStroke p) = view s := by
  unfold State.connStroke
  split
  · simp [State.enterFault]
  · simp [State.enterFault]
  · split <;> simp
  all_goals rfl

/-! ### Depths (R11 to R17) -/

@[simp] theorem view_takeDepth (s : State) (c : Nat) : view (s.takeDepth c) = view s := by
  by_cases h : c ≤ maxDepth <;> simp only [State.takeDepth, State.depthValue, h, if_true, if_false] <;> rfl

@[simp] theorem view_raiseOffset (s : State) (x : Int) : view (s.raiseOffset x) = view s := rfl

theorem Keeps.takeDepth (s : State) (c : Nat) : Keeps s (s.takeDepth c) := .of_view (view_takeDepth s c)

theorem Keeps.holeRule (s : State) : Keeps s s.holeRule := by
  unfold State.holeRule
  split
  next h => exact .advanceHole h.2.2.2.le
  next => exact .refl s

theorem Keeps.afterHeight (s : State) (before : Nat) : Keeps s (s.afterHeight before) := by
  unfold State.afterHeight
  split
  · exact .refl s
  · split
    · exact (Keeps.takeDepth _ _).trans (.holeRule _)
    · exact .refl s

theorem Keeps.slipsSetEdge (s : State) : Keeps s s.slipsSetEdge :=
  .of_view ((view_fireLevel _ _ _ _).trans (view_modStr rfl))

theorem Keeps.compareAtRelease (s : State) : Keeps s s.compareAtRelease := by
  unfold State.compareAtRelease
  dsimp only
  split
  · exact (Keeps.takeDepth _ _).trans (.holeRule _)
  · exact .of_view rfl

theorem Keeps.slipsReleasedEdge (s : State) : Keeps s s.slipsReleasedEdge := by
  unfold State.slipsReleasedEdge
  refine Keeps.trans ?_ (.of_view (view_connReleased _))
  split
  · have hreleased : Keeps s ((s.modStr fun u => { u with slips := .released }).fire .slipsSet (.raw false)) := .of_view rfl
    dsimp only
    split
    · exact hreleased.trans (.compareAtRelease _)
    · exact hreleased
  · exact .refl s

theorem Keeps.legalStep (s : State) (up : Bool) : Keeps s (s.legalStep up) :=
  Keeps.trans (t := s.modFlu fun u => { u with
    encoderCount := if up then min countMax (s.flu.encoderCount + 1) else max countMin (s.flu.encoderCount - 1) })
    (.of_view (view_modFlu rfl)) (.afterHeight _ _)

theorem Keeps.illegalStep (s : State) : Keeps s s.illegalStep := by
  refine .of_view ?_
  simp only [State.illegalStep, view_fireLevel]
  exact (view_modStr rfl).trans (view_modFlu rfl)

/-- Without a job nothing rests on the hole depth. -/
theorem Keeps.setHole {s : State} (h : s.jmu.state = .noJob) (d : Nat) : Keeps s (s.modStr fun u => { u with hole := d }) :=
  ⟨⟨id, id, id, id, fun _ _ _ => balance_of_noJob h⟩, id⟩

/-- Hole depth takes a greater bit depth; the rise is drilled depth while there is a job (R16). -/
def holeToBit (s : State) : State :=
  if s.str.hole < s.str.d then
    match s.jmu.state with
    | .noJob => s.modStr fun u => { u with hole := u.d }
    | .opened | .closing _ => s.advanceHole
  else s

theorem rebase_eq (s : State) :
    s.rebase = holeToBit (if s.str.depth = .reliable then s.takeDepth s.limited else s) := by
  unfold State.rebase holeToBit
  dsimp only
  generalize (if s.str.depth = .reliable then s.takeDepth s.limited else s) = t
  cases t.jmu.state <;> rfl

theorem Keeps.holeToBit (s : State) : Keeps s (holeToBit s) := by
  unfold CirculationProofs.holeToBit
  split
  next hlt =>
    split
    next hstate => exact .setHole hstate _
    all_goals exact .advanceHole hlt.le
  next => exact .refl s

theorem Keeps.rebase (s : State) : Keeps s s.rebase := by
  rw [rebase_eq]
  refine Keeps.trans ?_ (.holeToBit _)
  split
  · exact .takeDepth _ _
  · exact .refl s

/-- The first two steps of Set Block Height: the offset written, depth status RELIABLE (R15). -/
def heightSet (s : State) (h : Nat) : State :=
  let t := s.modStr fun u => { u with offset := h - encoderTerm s.flu.encoderCount u.cpm }
  (t.modStr fun u => { u with depth := .reliable }).fireLevel .depthFault (t.rawValue .depthFault) false

theorem view_heightSet (s : State) (h : Nat) : view (heightSet s h) = view s :=
  (view_fireLevel _ _ _ _).trans ((view_modStr rfl).trans (view_modStr rfl))

theorem setHeight_eq (s : State) (h : Nat) :
    s.setHeight h =
      let t := (heightSet s h).takeDepth (heightSet s h).limited
      if t.str.bha.isSome ∧ t.str.hole < t.str.d then t.advanceHole else t := rfl

theorem Keeps.setHeight (s : State) (h : Nat) : Keeps s (s.setHeight h) := by
  have hdepth := (Keeps.of_view (view_heightSet s h)).trans (.takeDepth _ (heightSet s h).limited)
  rw [setHeight_eq]
  dsimp only
  split
  next hcond => exact hdepth.trans (.advanceHole hcond.2.le)
  next => exact hdepth

/-! ### Circulation -/

@[simp] theorem view_setCirc (s : State) (c : CircState) : view (s.setCirc c) = view s := by
  have hiv : (worstAfter s.slu.openIv s.ccu.state c).map intervalFigures = s.slu.openIv.map intervalFigures := by
    rw [worstAfter_eq_map, Option.map_map]
    rfl
  rw [setCirc_eq]
  exact (view_setIntervals (s := s.modCcu fun u => { u with state := c }) (closed := s.slu.closed) hiv).trans
    (view_modCcu rfl)

theorem view_judgeWindow (s : State) : view s.judgeWindow = view s := by
  unfold State.judgeWindow
  dsimp only
  rw [view_fireLevel, view_modCcu rfl, view_fireLevel, view_modCcu rfl, view_setCirc, view_modCcu rfl]

theorem view_restartWindow (s : State) : view s.restartWindow = view s := view_modCcu rfl

theorem view_completeWindow (s : State) : view s.completeWindow = view s := by
  unfold State.completeWindow
  split
  · rw [view_restartWindow, view_judgeWindow]
  · rfl

theorem view_checkWindow (s : State) : view s.checkWindow = view s :=
  (view_completeWindow _).trans (view_modCcu rfl)

theorem view_stopCirculation (s : State) : view s.stopCirculation = view s := by
  unfold State.stopCirculation
  dsimp only
  rw [view_modCcu rfl, view_setCirc, view_restartWindow]
  split
  · exact view_judgeWindow s
  · rfl

theorem view_afterPumps (s : State) (was : Bool) : view (s.afterPumps was) = view s := by
  unfold State.afterPumps
  dsimp only
  split
  · rw [view_stopCirculation, view_fireLevel]
  · rw [view_fireLevel]

theorem view_pumpStops (s : State) (p : PumpId) : view (s.pumpStops p) = view s := by
  unfold State.pumpStops
  dsimp only
  split
  · rw [view_afterPumps]
    cases p <;> exact view_modCcu rfl
  · rfl

theorem view_returnPulse (s : State) : view s.returnPulse = view s := view_modCcu rfl

/-! ### Strokes (R44 to R46, R55) -/

/-- An operation on the Circulation Unit's volumes alone. -/
theorem Keeps.of_volumes {s : State} {f : CircUnit → CircUnit}
    (hset : (circFigures (f s.ccu)).2 = (circFigures s.ccu).2) (hl : LiftOk s → LiftOk (s.modCcu f)) :
    Keeps s (s.modCcu f) := by
  have hconfig : config (s.modCcu f) = config s := by
    simp only [circFigures, Prod.mk.injEq] at hset
    simp only [config, State.settings, State.modCcu, hset]
  exact ⟨.of_books rfl id hl (groupsOk_of_config hconfig rfl rfl), id⟩

/-- The lift counter rises by no more than the pumped volumes do (R55). -/
theorem liftOk_pumped {s : State} {p : PumpId} {rise : Nat} (hrise : rise ≤ strokeRise s.ccu p) (h : LiftOk s) :
    LiftOk (s.modCcu fun u => { u.putPump p (u.pump p).afterStroke with lift := u.lift + rise }) := by
  have hvol : (s.ccu.pump p).afterStroke.vol = (s.ccu.pump p).vol + strokeRise s.ccu p :=
    (Nat.add_sub_cancel' (Nat.le_add_right _ _)).symm
  unfold LiftOk at h ⊢
  cases p <;> simp only [State.modCcu, CircUnit.putPump, CircUnit.pump] at hvol hrise ⊢ <;> omega

/-- The state at a stroke when its pump has been counted and the lift counter has risen by `rise` (R44 to R46, R55). -/
def pumpedTo (s : State) (p : PumpId) (rise : Nat) : State :=
  s.modCcu fun u => { u.putPump p (u.pump p).afterStroke with lift := u.lift + rise }

theorem Keeps.pumpedTo {s : State} {p : PumpId} {rise : Nat} (hrise : rise ≤ strokeRise s.ccu p) :
    Keeps s (pumpedTo s p rise) :=
  .of_volumes (by cases p <;> rfl) (liftOk_pumped hrise)

/-- Of the Circulation Unit the view reads the volumes and the settings alone. -/
theorem view_modCcu_congr (s : State) {u v : CircUnit} (h : circFigures u = circFigures v) :
    view (s.modCcu fun _ => u) = view (s.modCcu fun _ => v) :=
  view_modCcu (s := s.modCcu fun _ => v) (f := fun _ => u) h

/-- Firing, circulation state and window apart, stages 1 to 3 of a stroke count its pump, and then `f` acts (R44). -/
theorem view_pumpedState_modCcu (s : State) (p : PumpId) (f : CircUnit → CircUnit) :
    view ((pumpedState s p).modCcu f) = view (s.modCcu fun _ => f (pumpedUnit s.ccu p)) := by
  have hpumped : view ((withCirc s (pumpedUnit s.ccu p)).modCcu f) = view (s.modCcu fun _ => f (pumpedUnit s.ccu p)) :=
    view_setIntervals (s := s.modCcu fun _ => f (pumpedUnit s.ccu p)) (closed := s.slu.closed)
      (by rw [worstAfter_eq_map, Option.map_map]; rfl)
  unfold pumpedState
  split
  · exact hpumped
  · exact hpumped

theorem view_pumpedState (s : State) (p : PumpId) : view (pumpedState s p) = view (pumpedTo s p 0) :=
  (view_pumpedState_modCcu s p id).trans (view_modCcu_congr s (by cases p <;> rfl))

/-- Stage 4 hands the rise to the Lag Unit in the state in which the lift counter has taken it (R44, R55). -/
theorem view_risen (s : State) (p : PumpId) :
    view (((pumpedState s p).modCcu fun u => { u with lift := u.lift + strokeRise s.ccu p }).modLgu fun u =>
      { u with rise := true }) = view (pumpedTo s p (strokeRise s.ccu p)) :=
  (view_pumpedState_modCcu s p _).trans (view_modCcu_congr s (by cases p <;> rfl))

theorem Keeps.circStroke (s : State) (p : PumpId) : Keeps s (s.circStroke p) := by
  rw [circStroke_eq]
  refine Keeps.trans ?_ (.of_view (view_checkWindow _))
  unfold State.lift
  split
  · exact ((Keeps.pumpedTo le_rfl).trans (.of_view (view_risen s p))).trans (.liftRose _)
  · exact (Keeps.pumpedTo (Nat.zero_le _)).trans (.of_view (view_pumpedState s p))

theorem Keeps.stroke (s : State) (p : PumpId) : Keeps s (s.stroke p) :=
  (Keeps.circStroke s p).trans (.of_view (view_connStroke _ p))

/-! ### Ticks (R99, R109, R112) -/

theorem sum_meteredJob (u : JobUnit) (a : Activity) : (meteredJob u a).meters.toList.sum = u.meters.toList.sum + 1 :=
  sum_bump u.meters (by cases a <;> decide) 1

/-- A counted second goes to one meter and to the clock (R112). -/
theorem Keeps.meterSecond (s : State) : Keeps s s.meterSecond := by
  have hiv : (s.slu.openIv.map fun v =>
      { v with seconds := v.seconds + (if Counts s.jmu ∧ s.activity = .drilling then 1 else 0) }).map intervalFigures =
      s.slu.openIv.map intervalFigures := by
    rw [Option.map_map]
    rfl
  have hjob : Keeps s { s with jmu := if Counts s.jmu then meteredJob s.jmu s.activity else s.jmu } := by
    split
    · refine ⟨.of_books rfl (fun hm ho => ?_) id id, id⟩
      exact (sum_meteredJob s.jmu s.activity).trans (congrArg (· + 1) (hm ho))
    · exact .refl s
  rw [meterSecond_eq]
  exact hjob.trans (.of_view (view_setIntervals
    (s := { s with jmu := if Counts s.jmu then meteredJob s.jmu s.activity else s.jmu }) (closed := s.slu.closed) hiv))

theorem view_pumpTick (s : State) : view s.pumpTick = view s := by
  have hpump : s.pumpTick = (s.modCcu tickedUnit).afterPumps s.ccu.anyRunning := rfl
  have hticked : circFigures (tickedUnit s.ccu) = circFigures s.ccu := by
    simp only [circFigures, tickedUnit, tick_eq]
  rw [hpump, view_afterPumps, view_modCcu hticked]

theorem view_countTick (s : State) : view s.countTick = view s := by
  unfold State.countTick
  split <;> rfl

theorem Keeps.timeTick (s : State) : Keeps s s.timeTick :=
  ((Keeps.of_view ((view_timeTo _ _).trans (view_countTick s))).trans (.meterSecond _)).trans (.of_view (view_pumpTick _))

/-! ### Pins and filters (R162 to R165) -/

theorem view_takeLevel (s : State) (i : Fin 12) : view (s.takeLevel i) = view s :=
  view_modFlu (lineSettings_putLine rfl rfl)

theorem view_pinChange (s : State) (i : Fin 12) (high : Bool) : view (s.pinChange i high) = view s := by
  unfold State.pinChange
  split
  · rfl
  · exact view_modFlu (lineSettings_putLine rfl rfl)

theorem Keeps.strokeEdge (s : State) (p : PumpId) : Keeps s (s.strokeEdge p) := by
  unfold State.strokeEdge
  split
  · exact .of_view (view_modFlu (by cases p <;> rfl))
  · exact (Keeps.of_view (view_modFlu (by cases p <;> rfl))).trans (.stroke _ p)

theorem Keeps.acceptedChange (s : State) (fn : LineFn) (active : Bool) : Keeps s (s.acceptedChange fn active) := by
  cases fn with
  | stroke1 => cases active with
    | false => exact .refl s
    | true => exact .strokeEdge s .one
  | stroke2 => cases active with
    | false => exact .refl s
    | true => exact .strokeEdge s .two
  | returnFlow => cases active with
    | false => exact .refl s
    | true => exact .of_view (view_returnPulse s)
  | slips => cases active with
    | false => exact .slipsReleasedEdge s
    | true => exact .slipsSetEdge s
  | _ => exact .refl s

theorem Keeps.lineExpiry (s : State) (i : Fin 12) : Keeps s (s.lineExpiry i) := by
  have htaken := Keeps.of_view (view_takeLevel s i)
  unfold State.lineExpiry
  dsimp only
  split
  · unfold State.settled
    split
    · exact htaken.trans (.slipsSetEdge _)
    · exact htaken
  · split
    · exact .refl s
    · exact htaken.trans (.acceptedChange _ _ _)

theorem Keeps.encoderPair (s : State) (pair : Bool × Bool) : Keeps s (s.encoderPair pair) := by
  have href : Keeps s (s.modFlu fun u => { u with encRef := some pair }) := .of_view (view_modFlu rfl)
  unfold State.encoderPair
  dsimp only
  split
  · exact href
  · split
    · exact href
    · split
      · exact href.trans (.illegalStep _)
      · exact href.trans (.legalStep _ _)

theorem Keeps.encoderExpiry (s : State) (i : Fin 12) : Keeps s (s.encoderExpiry i) := by
  unfold State.encoderExpiry
  dsimp only
  split
  · have htaken := Keeps.of_view (view_takeLevel s i)
    have hboth : ∀ (b : Prop) [Decidable b] (j : Fin 12), Keeps s (if b then (s.takeLevel i).takeLevel j else s.takeLevel i) := by
      intro b _ j
      split
      · exact htaken.trans (.of_view (view_takeLevel _ j))
      · exact htaken
    split
    · exact (hboth _ _).trans (.encoderPair _ _)
    · exact hboth _ _
  · exact .refl s

theorem Keeps.filterExpiry (s : State) (i : Fin 12) : Keeps s (s.filterExpiry i) := by
  have htime : Keeps s (s.timeTo (s.flu.line i).deadline) := .of_view (view_timeTo _ _)
  unfold State.filterExpiry
  dsimp only
  split
  · split
    · exact htime.trans (.encoderExpiry _ i)
    · exact htime.trans (.lineExpiry _ i)
  · exact .refl s

end Sys2Proof.CirculationProofs
end

section
/-! What the opening and closing of a job, the store, and the loss and return of power keep. -/

namespace Sys2Proof.CirculationProofs

open Sys2Proof Machine ConnectionProofs

/-! ### Job Open (R133) -/

theorem Keeps.openJob (s : State) (ident : JobIdent) : Keeps s (s.openJob ident) := by
  have hzero : ∀ n, (Vector.replicate n 0).toList.sum = 0 := by simp
  rw [openJob_eq]
  refine ⟨⟨fun _ _ => hzero 7, fun _ => Nat.zero_le _, groupsOk_of_config rfl rfl rfl, fun _ => ?_, fun hg _ _ => ?_⟩, id⟩
  · rw [queueOk_iff]
    exact ⟨⟨Nat.zero_le _, .nil, .nil⟩, fun _ _ => nofun⟩
  · refine Ledger.balance_opened (iv := openedAt 0 ident.start s.slu.step s.ccu.state) ⟨⟨ident, rfl, ?_⟩, rfl⟩ rfl rfl rfl ?_
    · exact (congrArg (ident.start + 0 + ·) (hzero 24)).symm
    · exact Nat.lt_add_of_pos_right hg.bounds.2

/-! ### Job Close (R92, R107, R134) -/

theorem makesFinal_close : MakesFinal (fun s r => s.finishParcel (r.unsampled .unsampledAtClose)) .unsampledAtClose :=
  fun s _ => ⟨s.liu, rfl⟩

/-- The record of the partial interval at Job Close, if anything was drilled in it (R107). -/
def partialRecs (s : State) : List StrataRec :=
  match s.slu.openIv with
  | some iv =>
    if iv.drilled = 0 then []
    else [(closedRecord s.jobNumber s.jmu.clock iv s.str.hole).unsampled .unsampledAtClose]
  | none => []

/-- The count of closed intervals with the partial one (R107). -/
def closedAtClose (s : State) : Nat :=
  match s.slu.openIv with
  | some iv => s.slu.closed + (if iv.drilled = 0 then 0 else 1)
  | none => s.slu.closed

/-- The state at Job Close without the open interval. -/
def withoutInterval (s : State) : State := { s with slu := { s.slu with openIv := none, closed := closedAtClose s } }

/-- The partial interval goes, and its record, if it has one, becomes final (R107). -/
theorem closePartial_cases (s : State) :
    (partialRecs s = [] ∧ s.closePartial = withoutInterval s)
      ∨ ∃ r iv, partialRecs s = [r] ∧ s.slu.openIv = some iv ∧ span r = s.str.hole - iv.top
        ∧ s.closePartial = ((withoutInterval s).finishLoose r).fire .intervalClosed (.interval r.interval) := by
  unfold partialRecs State.closePartial withoutInterval closedAtClose
  cases hiv : s.slu.openIv with
  | none =>
    refine .inl ⟨rfl, ?_⟩
    dsimp only
    rw [← hiv]
  | some iv =>
    by_cases hz : iv.drilled = 0
    · left
      simp [hz, State.modSlu]
    · right
      simp only [hz, if_false]
      exact ⟨_, iv, rfl, rfl, rfl, rfl⟩

theorem finals_closePartial (s : State) : Finals (partialRecs s) (withoutInterval s) s.closePartial := by
  rcases closePartial_cases s with ⟨hnil, hclose⟩ | ⟨r, iv, hrec, -, -, hclose⟩
  · rw [hnil, hclose]
    exact (Departs.refl (N := False) _).finals
  · rw [hrec, hclose]
    exact (finals_finishLoose _ r).trans (Departs.fire (N := False) _ _ _).finals

/-- The records that become final at Job Close: the partial interval's, then those of the parcels under construction (R92,
R107). -/
def closingRecs (s : State) : List StrataRec :=
  partialRecs s ++ s.closePartial.unfinished.map fun r => r.unsampled .unsampledAtClose

theorem finals_closeRecords (s : State) : Finals (closingRecs s) (withoutInterval s) s.closeRecords :=
  (finals_closePartial s).trans (makesFinal_close.finals_foldl _ _)

theorem Advances.closeRecords (s : State) : Advances s s.closeRecords :=
  (Advances.setIntervals s none (closedAtClose s)).trans (finals_closeRecords s).advances

theorem closeRecords_eq (s : State) :
    s.closeRecords =
      (s.closePartial.unfinished.map fun r => r.unsampled .unsampledAtClose).foldl State.finishParcel s.closePartial := by
  rw [List.foldl_map]
  rfl

/-- Every parcel that is left at Job Close waits with its final record (R92). -/
theorem finalWaiting_closeRecords (s : State) : ∀ p ∈ s.closeRecords.lgu.parcels, p.status = .finalWaiting := by
  intro p hp
  by_contra hstatus
  have hleft : p ∈ unfinal s.closeRecords.lgu := List.mem_filter.mpr ⟨hp, by simpa using hstatus⟩
  rw [closeRecords_eq] at hleft
  obtain ⟨hmem, hother⟩ := mem_unfinal_foldl hleft
  exact hother _ (List.mem_map_of_mem (List.mem_map_of_mem hmem)) rfl

theorem openIv_closeRecords (s : State) : s.closeRecords.slu.openIv = none := by
  rw [(finals_closeRecords s).slu]
  rfl

theorem queueOk_withoutInterval {s : State} (hq : QueueOk s) : QueueOk (withoutInterval s) := by
  rw [queueOk_iff] at hq ⊢
  exact ⟨hq.1, fun _ h => nomatch h⟩

theorem intervals_nodup {s : State} (hq : QueueOk s) : (intervals s.lgu).Nodup := ((queueOk_iff s).mp hq).1.nodup

/-- What is drilled in the open interval moves to the cells with its partial record (R107, R116). -/
theorem ledger_closePartial {s : State} {iv : OpenInterval} (hl : Ledger iv.drilled s) (hiv : s.slu.openIv = some iv)
    (hhole : s.str.hole = iv.top + iv.drilled) (hb : BoundsOk s.jmu.tariff.bounds) (hq : QueueOk s) :
    Ledger 0 s.closePartial := by
  rcases closePartial_cases s with ⟨hnil, hclose⟩ | ⟨r, v, -, hv, hspan, hclose⟩
  · have hzero : iv.drilled = 0 := by simpa [partialRecs, hiv] using hnil
    rw [hclose]
    exact ⟨hl.balance, hl.pending.trans (by rw [hzero]; rfl)⟩
  · obtain rfl : v = iv := Option.some.inj (hv.symm.trans hiv)
    have hdrilled : v.drilled = 0 + span r := by omega
    rw [hdrilled] at hl
    have hfinal : Ledger 0 ((withoutInterval s).finishLoose r) :=
      Ledger.finishLoose (s := withoutInterval s) ⟨hl.balance, hl.pending⟩ hb
        (show (intervals s.lgu).Nodup from intervals_nodup hq)
    rw [hclose]
    exact ⟨hfinal.balance, hfinal.pending⟩

/-- When every record of an OPEN job has become final nothing is pending (R92, R107, R116). -/
theorem ledger_closeRecords {s : State} (ho : s.jmu.state = .opened) (hg : GroupsOk s) (hq : QueueOk s) (hb : Balance s) :
    Ledger 0 s.closeRecords := by
  obtain ⟨iv, hiv, hhole, -⟩ := hb.opened ho
  have hpartial := ledger_closePartial (hb.ledger ho hiv) hiv hhole hg.bounds.1 hq
  have hfin := finals_closePartial s
  have htariff : s.closePartial.jmu.tariff = s.jmu.tariff := by
    rw [hfin.advances.jmu]
    rfl
  have hnodup := intervals_nodup (hfin.queueOk (queueOk_withoutInterval hq))
  refine Ledger.foldl makesFinal_close _ _ hpartial (htariff ▸ hg.bounds.1) hnodup ?_ fun r hr => ?_
  · rw [State.unfinished, List.map_map]
    exact hnodup.sublist (List.filter_sublist.map _)
  · obtain ⟨p, hp, rfl⟩ := List.mem_map.mp hr
    exact ⟨p, hp, rfl, rfl⟩

/-! ### The held job record (R134, R135) -/

/-- Steps 3 to 7 of Job Close: figures copied, downtime ended, statement and record composed, the record held (R134). -/
def closeFigures (s : State) : State :=
  let t := (s.modCcu fun u => { u with close := some s.ccu.figures }).modJmu fun u => { u with downtime := none }
  let x := t.compose false
  t.modJmu fun u =>
    { u with finalStmt := some x, record := some (t.jobRecord x s.ccu.figures), state := .closing .held }

theorem closeJob_eq (s : State) : s.closeJob = (closeFigures s.closeRecords).releaseCheck.takeHead := rfl

theorem departs_closeJob (s : State) :
    Departs (intervals (closeFigures s.closeRecords).lgu).Nodup (closeFigures s.closeRecords) s.closeJob := by
  have hrelease := Departs.releaseCheck (N := (intervals (closeFigures s.closeRecords).lgu).Nodup) (closeFigures s.closeRecords)
  exact hrelease.trans (.takeHead fun h => hrelease.nodup h)

/-- Copying the figures changes nothing that the lift counter, the settings and the queue rest on. -/
theorem queueOk_closeFigures {s : State} (hq : QueueOk s) : QueueOk (closeFigures s) := hq

theorem metersOk_closeFigures (s : State) : MetersOk (closeFigures s) := nofun

theorem linesOk_closeFigures {s : State} (hl : LinesOk s.flu) : LinesOk (closeFigures s).flu := hl

theorem liftOk_closeFigures {s : State} (hl : LiftOk s) : LiftOk (closeFigures s) := hl

theorem groupsOk_closeFigures {s : State} (hg : GroupsOk s) : GroupsOk (closeFigures s) := groupsOk_of_config rfl rfl rfl hg

/-- With nothing pending outside the queue's parcels, all of them final, the held job is in balance. -/
theorem balance_closeFigures {s : State} {x : Nat} (hl : Ledger x s) (hiv : s.slu.openIv = none)
    (hfinal : ∀ p ∈ s.lgu.parcels, p.status = .finalWaiting) : Balance (closeFigures s) where
  books _ := hl.balance
  opened := nofun
  closing _ _ := ⟨hiv, hfinal⟩

theorem Keeps.closeJob {s : State} (ho : s.jmu.state = .opened) : Keeps s s.closeJob := by
  have hadv := Advances.closeRecords s
  have hfin := finals_closeRecords s
  refine Keeps.trans (t := closeFigures s.closeRecords) ?_ (.of_departs (departs_closeJob s))
  refine ⟨⟨fun _ => metersOk_closeFigures _, fun h => liftOk_closeFigures (hadv.lift h),
    fun h => groupsOk_closeFigures (hadv.groups h),
    fun h => queueOk_closeFigures (hfin.queueOk (queueOk_withoutInterval h)), fun hg hq hb => ?_⟩,
    fun h => linesOk_closeFigures (hadv.lines h)⟩
  exact balance_closeFigures (ledger_closeRecords ho hg hq hb) (openIv_closeRecords s) (finalWaiting_closeRecords s)

end Sys2Proof.CirculationProofs
end

section
/-! What the reads, writes and erases of the store and the loss and return of power keep. -/

namespace Sys2Proof.CirculationProofs

open Sys2Proof Machine ConnectionProofs

/-! ### Reads (R149 to R152) -/

theorem view_serve (req : ReadReq) (s : State) : view (serve req s).1 = view s := by
  rw [serve_eq]
  rfl

theorem view_serveOne (s : State) (p : PendingRead) : view (s.serveOne p) = view s := by
  rw [State.serveOne_eq]
  rfl

theorem view_serveReads (s : State) : view s.serveReads = view s := by
  rw [State.serveReads_eq]
  rfl

theorem view_resumeErase (s : State) : view s.resumeErase = view s := by
  unfold State.resumeErase
  split <;> rfl

theorem view_endSuspension (s : State) : view s.endSuspension = view s := by
  unfold State.endSuspension
  split
  · rw [view_resumeErase, view_serveReads]
  · rfl

theorem view_serveSuspended (s : State) : view s.serveSuspended = view s := by
  unfold State.serveSuspended
  split
  · rw [view_resumeErase, view_serveOne]
    rfl
  · exact view_resumeErase s
  · rfl

theorem view_eraseEnds (s : State) : view s.eraseEnds = view s := by
  unfold State.eraseEnds
  split
  · rw [view_modRst rfl rfl, view_serveReads, view_endSuspension]
  · rfl

theorem view_dropRead (s : State) (ln : Link) : view (s.dropRead ln) = view s := by
  unfold State.dropRead
  dsimp only
  rw [view_resumeErase, view_modRst rfl rfl]
  split
  · split
    · exact view_serve _ s
    · rfl
  · rfl

theorem view_takeRead (ln : Link) (tag : Nat) (req : ReadReq) (s : State) : view (takeRead ln tag req s).1 = view s := by
  unfold takeRead
  split
  · exact view_serve req s
  · exact view_serve req s
  · split <;> rfl
  · rfl
  · rfl

/-! ### The queue and the stored images -/

/-- A change of the store alone that keeps its settings images in order. -/
theorem Keeps.modRst {s : State} {f : Store → Store} (h : StoredOk s.rst → StoredOk (f s.rst)) : Keeps s (s.modRst f) :=
  ⟨.of_books rfl id id fun hg => ⟨hg.1, h hg.2⟩, id⟩

/-- With no job nothing is left to balance. -/
theorem Keeps.endJob (s : State) : Keeps s s.endJob :=
  ⟨⟨fun _ => nofun, id, id, id, fun _ _ _ => balance_of_noJob rfl⟩, id⟩

theorem Keeps.takeHead (s : State) : Keeps s s.takeHead := .of_departs (.takeHead id)

theorem Keeps.handOn (s : State) : Keeps s s.handOn := .of_departs (.handOn id)

theorem Keeps.releaseCheck (s : State) : Keeps s s.releaseCheck := .of_departs (.releaseCheck s)

theorem Keeps.reoffer (s : State) : Keeps s (reoffer s.waiting s) := .of_departs (.reoffer _ s finalAt_waiting)

theorem Keeps.offerImage (s : State) {b : EntryBody} (hb : b.settingsOk = true) : Keeps s (s.offerImage b).1 :=
  (Keeps.of_departs (.offer s hb)).trans (.takeHead _)

theorem Keeps.dropEntry (s : State) (b : EntryBody) : Keeps s (s.dropEntry b) := by
  cases b with
  | job r => exact (Keeps.of_view (view_fire _ _ _)).trans (.endJob _)
  | _ => exact .of_view rfl

/-- A settings area in range stays so when a slot takes an image in range. -/
theorem slotsOk_put {a : ImageArea Settings} {i : Nat} {x : Option (Slot Settings)} (hx : settingsSlotOk x = true)
    (h : settingsSlotOk a.slot0 = true ∧ settingsSlotOk a.slot1 = true) :
    settingsSlotOk (a.put i x).slot0 = true ∧ settingsSlotOk (a.put i x).slot1 = true := by
  unfold ImageArea.put
  split
  · exact ⟨hx, h.2⟩
  · exact ⟨h.1, hx⟩

/-- The head of a queue in order is in order. -/
theorem StoredOk.head {u : Store} (h : StoredOk u) {e : Entry} {es : List Entry} (hq : u.queue = e :: es) :
    e.body.settingsOk = true :=
  List.all_eq_true.mp h.2.2 e (hq ▸ List.mem_cons_self)

/-- A write leaves the settings slots in range, the slot VOID or with its entry's image (R146, R147). -/
theorem StoredOk.putTarget {u : Store} (h : StoredOk u) {e : Entry} (he : e.body.settingsOk = true) (verified : Bool) :
    StoredOk (u.putTarget e verified) := by
  unfold Store.putTarget
  cases hbody : e.body with
  | settings img =>
    have hx : settingsSlotOk (some (if verified then Slot.written img 0 else .void)) = true := by
      rw [hbody] at he
      cases verified
      · rfl
      · exact he
    obtain ⟨h0, h1⟩ := slotsOk_put (i := e.failures) hx ⟨h.1, h.2.1⟩
    exact ⟨h0, h1, h.2.2⟩
  | _ => exact h

theorem putTarget_queue (u : Store) (e : Entry) (verified : Bool) : (u.putTarget e verified).queue = u.queue := by
  unfold Store.putTarget
  split <;> rfl

theorem putTarget_ctl (u : Store) (e : Entry) (verified : Bool) : (u.putTarget e verified).ctl = u.ctl := by
  unfold Store.putTarget
  split <;> rfl

theorem StoredOk.mem {u : Store} (h : StoredOk u) : ∀ e ∈ u.queue, e.body.settingsOk = true := List.all_eq_true.mp h.2.2

/-! ### The end of a write (R146 to R148) -/

/-- A FAILED controller refuses every offer (R142). -/
theorem offer_of_failed {u : Store} (h : u.ctl.isFailed = true) (b : EntryBody) : u.offer b = (u, .failed) := by
  simp [Store.offer, h]

theorem rst_reoffer_of_failed (l : List Waiting) : ∀ {s : State}, s.rst.ctl.isFailed = true → (reoffer l s).rst = s.rst := by
  induction l with
  | nil => exact fun _ => rfl
  | cons w l ih =>
    intro s h
    cases w with
    | loose r =>
      simp only [Machine.reoffer, State.offer, offer_of_failed h]
      exact ih h
    | parcel r =>
      obtain ⟨near, links, hplace⟩ := placeParcel_eq s r .failed
      simp only [Machine.reoffer, State.offer, offer_of_failed h, hplace]
      exact ih h

theorem queue_releaseCheck_of_failed {s : State} (h : s.rst.ctl.isFailed = true) :
    s.releaseCheck.rst.queue = s.rst.queue := by
  unfold State.releaseCheck
  split
  · split
    · rfl
    · simp only [State.offer, offer_of_failed h]
      rfl
  · rfl

theorem queue_handOn_of_failed {s : State} (h : s.rst.ctl.isFailed = true) : s.handOn.rst.queue = s.rst.queue := by
  have hrst := rst_reoffer_of_failed s.waiting h
  rw [State.handOn, queue_releaseCheck_of_failed (hrst.symm ▸ h), hrst]

/-- A dropped entry leaves the store but for the protect mark (R145, R148, R156). -/
theorem dropEntry_rst (s : State) (b : EntryBody) :
    (s.dropEntry b).rst.queue = s.rst.queue ∧ (s.dropEntry b).rst.ctl = s.rst.ctl := by
  cases b <;> exact ⟨rfl, rfl⟩

/-- In a FAILED store every entry departs as a drop (R148). -/
theorem Keeps.failDrops (l : List Entry) : ∀ {s : State}, s.rst.ctl.isFailed = true → s.rst.queue = l →
    Keeps s (failDrops l s) := by
  induction l with
  | nil => exact fun {s} _ _ => .refl s
  | cons e es ih =>
    intro s hfailed hq
    have hleft : Keeps s (s.modRst fun u => { u with queue := es }) :=
      .modRst fun h => ⟨h.1, h.2.1, List.all_eq_true.mpr fun x hx => h.mem x (hq ▸ List.mem_cons_of_mem _ hx)⟩
    obtain ⟨hqueue, hctl⟩ := dropEntry_rst (s.modRst fun u => { u with queue := es }) e.body
    have hdropped : ((s.modRst fun u => { u with queue := es }).dropEntry e.body).rst.ctl.isFailed = true := hctl ▸ hfailed
    refine ((hleft.trans (.dropEntry _ e.body)).trans (.handOn _)).trans (ih ?_ ?_)
    · exact (Departs.handOn (N := False) nofun).failed.trans hdropped
    · exact (queue_handOn_of_failed hdropped).trans hqueue

section
variable {s : State} {e : Entry} {es : List Entry}

/-- The first steps of a write's end keep the store in order: the target written, and the queue after it (R146 to R148). -/
theorem Keeps.putTarget {f : Store → Store} (hq : s.rst.queue = e :: es) (verified : Bool)
    (hareas : (f s.rst).areas = (s.rst.putTarget e verified).areas)
    (hqueue : ∀ x ∈ (f s.rst).queue, x.body = e.body ∨ x ∈ es) : Keeps s (s.modRst f) := by
  refine .modRst fun h => ?_
  have hput := h.putTarget (h.head hq) verified
  unfold StoredOk
  rw [hareas]
  refine ⟨hput.1, hput.2.1, List.all_eq_true.mpr fun x hx => ?_⟩
  rcases hqueue x hx with hbody | hmem
  · exact hbody ▸ h.head hq
  · exact h.mem x (hq ▸ List.mem_cons_of_mem _ hmem)

theorem Keeps.writePassed (hq : s.rst.queue = e :: es) : Keeps s (s.writePassed e) := by
  have hdone := Keeps.putTarget (s := s) (f := fun u => { u.putTarget e true with queue := u.queue.tail, ctl := .ready }) hq
    true rfl fun x hx => .inr (by simpa [hq] using hx)
  unfold State.writePassed
  dsimp only
  refine Keeps.trans (Keeps.trans (hdone.trans (.reoffer _)) ?_) ((Keeps.of_view (view_serveReads _)).trans (.takeHead _))
  split
  · exact .endJob _
  · exact .releaseCheck _

theorem Keeps.work (e : Entry) (hf : s.rst.ctl.isFailed = false) : Keeps s (s.work e).1 := .of_departs (.work e hf id)

theorem Keeps.writeFailedOnce (hq : s.rst.queue = e :: es) (hctl : s.rst.ctl = .writing) :
    Keeps s (s.writeFailedOnce e) := by
  let e' : Entry := { e with failures := 1 }
  let f : Store → Store := fun u =>
    { u.putTarget e false with queue := e' :: u.queue.tail, voidCount := u.voidCount + 1 }
  have hput : Keeps s (s.modRst f) := .putTarget hq false rfl fun x hx => by
    rcases List.mem_cons.mp hx with rfl | hmem
    · exact .inl rfl
    · exact .inr (by simpa [hq] using hmem)
  have hf : (s.modRst f).serveReads.rst.ctl.isFailed = false := by
    rw [State.serveReads_eq]
    exact (congrArg Ctl.isFailed (putTarget_ctl s.rst e false)).trans (hctl ▸ rfl)
  have hwork := hput.trans ((Keeps.of_view (view_serveReads _)).trans (.work e' hf))
  unfold State.writeFailedOnce
  dsimp only
  split <;> rename_i heq <;> rw [heq] at hwork
  · exact hwork.trans (.takeHead _)
  · exact hwork

theorem Keeps.writeFailedTwice (hq : s.rst.queue = e :: es) : Keeps s (s.writeFailedTwice e) := by
  let f : Store → Store := fun u => { u.putTarget e false with ctl := .failed, voidCount := u.voidCount + 1 }
  have hput : Keeps s (s.modRst f) := .putTarget hq false rfl fun x hx => by
    have hx' : x ∈ e :: es := hq ▸ putTarget_queue s.rst e false ▸ hx
    rcases List.mem_cons.mp hx' with rfl | hmem
    · exact .inl rfl
    · exact .inr hmem
  unfold State.writeFailedTwice
  dsimp only
  refine (hput.trans (.of_view (view_fireLevel _ .storeFailed false true))).trans
    ((Keeps.failDrops _ ?_ rfl).trans (.of_view (view_serveReads _)))
  rfl

end

theorem Keeps.writeEnds (s : State) (verified : Bool) : Keeps s (s.writeEnds verified) := by
  unfold State.writeEnds
  split
  next e es hctl hq =>
    split
    · exact .writePassed hq
    · split
      · exact .writeFailedOnce hq hctl
      · exact .writeFailedTwice hq
  · exact .refl s

/-! ### Cold start and power loss (R141, R154) -/

/-- The slots of a settings area hold images in range. -/
def SlotsOk (a : ImageArea Settings) : Prop := settingsSlotOk a.slot0 = true ∧ settingsSlotOk a.slot1 = true

theorem SlotsOk.get {a : ImageArea Settings} (h : SlotsOk a) (i : Nat) : settingsSlotOk (a.get i) = true := by
  unfold ImageArea.get
  split
  · exact h.1
  · exact h.2

/-- Wrong bits leave the content of a slot (R140). -/
theorem SlotsOk.decay {a : ImageArea Settings} (h : SlotsOk a) (i n : Nat) : SlotsOk (a.decay i n) := by
  refine slotsOk_put ?_ h
  have hget := h.get i
  cases hslot : a.get i with
  | none => rfl
  | some x =>
    rw [hslot] at hget
    cases x with
    | void => rfl
    | written y k => exact hget

theorem SlotsOk.decays (l : List SlotDecay) : ∀ {a : Areas}, SlotsOk a.settings → SlotsOk (l.foldl Areas.decay a).settings := by
  induction l with
  | nil => exact id
  | cons x l ih =>
    refine fun {a} h => ih ?_
    unfold Areas.decay
    split
    · exact h.decay _ _
    all_goals exact h

/-- A write cut off leaves in a settings slot nothing or its entry's image (R141). -/
theorem StoredOk.torn {u : Store} (h : StoredOk u) (t : TornWrite) : SlotsOk (u.torn t).settings := by
  have hslots : SlotsOk u.areas.settings := ⟨h.1, h.2.1⟩
  unfold Store.torn
  split
  next e es _ hq =>
    have hbody := h.head hq
    cases he : e.body with
    | settings img =>
      rw [he] at hbody
      refine slotsOk_put ?_ hslots
      cases t with
      | blank => rfl
      | _ => exact hbody
    | _ => exact hslots
  · exact hslots

theorem loaded_readOut {x : Option (Slot Settings)} (h : settingsSlotOk x = true) {y : Settings}
    (hy : (readOut x).loaded = some y) : y.ok = true := by
  unfold readOut at hy
  split at hy <;> cases hy
  · exact h
  · exact h

/-- What the start-up load returns is in range (R154). -/
theorem SlotsOk.loaded {a : ImageArea Settings} (h : SlotsOk a) : (a.readOut.loaded.getD Settings.dflt).ok = true := by
  cases hload : a.readOut.loaded with
  | none => decide
  | some y =>
    unfold ImageArea.readOut at hload
    split at hload
    · exact loaded_readOut (h.get _) hload
    · cases hload

theorem lineSettings_cold (x : Settings) (u : FieldUnit) (i : Fin 12) :
    lineSettings (u.cold x) i = (x.lines[i], i == 5 && x.lines[4].fn == .encoder) := by
  fin_cases i <;> rfl

/-- The ninth group of a settings image apart from the others (R143). -/
theorem settingsOk_split (x : Settings) :
    x.ok = true ↔ ({ x with lines := LineCfg.dflt } : Settings).ok = true ∧ linesOk x.lines = true := by
  simp only [Settings.ok, linesOk_dflt, Bool.and_true, Bool.and_eq_true]

/-- The lines at cold start are as the loaded image has them, FL5 claimed under FL4's ENCODER (R161, R169). -/
theorem linesOk_cold {x : Settings} (hx : linesOk x.lines = true) (u : FieldUnit) : LinesOk (u.cold x) := by
  have hcfg : ∀ i, ((u.cold x).line i).cfg = x.lines[i] := fun i => congrArg Prod.fst (lineSettings_cold x u i)
  have hlines : (Vector.ofFn fun i => x.lines[i]) = x.lines := by simp
  refine ⟨fun i => ?_, ?_⟩
  · rw [hcfg]
    exact congrArg Prod.snd (lineSettings_cold x u i)
  · rw [lineCfgs_eq, funext hcfg, hlines]
    exact hx

/-- The three invariants are kept from `s` to `t`. -/
structure Preserves (s t : State) : Prop where
  meters : MetersOk s → MetersOk t
  lift : LiftOk s → LiftOk t
  balance : BalanceOk s → BalanceOk t

theorem Preserves.trans {s t u : State} (h : Preserves s t) (h' : Preserves t u) : Preserves s u :=
  ⟨h'.meters ∘ h.meters, h'.lift ∘ h.lift, h'.balance ∘ h.balance⟩

theorem Keeps.preserves {s t : State} (h : Keeps s t) : Preserves s t where
  meters := h.meters
  lift := h.lift
  balance := by
    rw [balanceOk_iff, balanceOk_iff, settingsOk_iff, settingsOk_iff]
    exact fun ⟨⟨hl, hg⟩, hq, hb⟩ => ⟨⟨h.lines hl, h.groups hg⟩, h.queue hq, h.balance hg hq hb⟩

/-- A state with no job and an empty queue is in balance once its settings are in range. -/
theorem balanceOk_idle {s : State} (hs : SettingsOk s) (hjob : s.jmu.state = .noJob) (hparcels : s.lgu.parcels = [])
    (hiv : s.slu.openIv = none) : BalanceOk s := by
  refine (balanceOk_iff s).mpr ⟨hs, ?_, balance_of_noJob hjob⟩
  rw [queueOk_iff]
  exact ⟨by simpa [queueKeys, hparcels] using ⟨Nat.zero_le _, .nil, .nil⟩, by simp [hiv]⟩

/-- Cold start loads settings in range from a store in order, and no job (R154). -/
theorem Preserves.cold (s : State) (st : Straps) (torn : TornWrite) (decay : List SlotDecay) :
    Preserves s (s.cold st (decay.foldl Areas.decay (s.rst.torn torn))) := by
  refine ⟨fun _ => nofun, fun _ => Nat.zero_le _, fun h => balanceOk_idle ?_ rfl rfl rfl⟩
  obtain ⟨-, -, hstored⟩ := (settingsOk_iff s).mp h.1
  have hslots := SlotsOk.decays decay (hstored.torn torn)
  obtain ⟨hgroups, hlines⟩ := (settingsOk_split _).mp hslots.loaded
  exact (settingsOk_iff _).mpr ⟨linesOk_cold hlines _, hgroups, hslots.1, hslots.2, rfl⟩

theorem config_reset_ok : (config State.reset).ok = true := by decide

/-- Without power the part has its defaults and no job (entry 40). -/
theorem Preserves.dark (s : State) (t : TornWrite) : Preserves s (s.dark t) := by
  refine ⟨fun _ => nofun, fun _ => Nat.zero_le _, fun h => balanceOk_idle ?_ rfl rfl rfl⟩
  obtain ⟨-, -, hstored⟩ := (settingsOk_iff s).mp h.1
  have hconfig : config (s.dark t) = config State.reset := rfl
  refine (settingsOk_iff _).mpr ⟨linesOk_cold (x := Settings.dflt) linesOk_dflt s.flu, ?_, (hstored.torn t).1, (hstored.torn t).2, rfl⟩
  rw [hconfig]
  exact config_reset_ok

end Sys2Proof.CirculationProofs
end

section
/-! What the requests keep that change a setting (R1, R9, R43, R51, R62, R79, R96, R100, R126, R160). -/

namespace Sys2Proof.CirculationProofs

open Sys2Proof Machine ConnectionProofs

/-! ### Requests that answer with a status -/

section
variable {s : State} {c : Prop} [Decidable c] {st : Status} {r : State × Answer}

/-- A check that refuses changes nothing. -/
theorem Keeps.refused (h : ¬ c → Keeps s r.1) : Keeps s (if c then say st s else r).1 := by
  split
  next => exact .refl s
  next hc => exact h hc

/-- A condition of acceptance without which nothing changes. -/
theorem Keeps.accepted (h : c → Keeps s r.1) : Keeps s (if c then r else say st s).1 := by
  split
  next hc => exact h hc
  next => exact .refl s

end

/-! ### The ranges of a settings image, by name -/

/-- A settings image in its ranges, one field a group or part of one (R143). -/
structure InRanges (x : Settings) : Prop where
  classes : x.classes.toList.all (fun c => c.all RodClass.ok) = true
  cpm : inRange 200 40000 x.cpm = true
  tol : inRange 100 2000 x.tol = true
  pump1 : x.pump1.ok = true
  pump2 : x.pump2.ok = true
  limits : x.limits.ok = true
  sections : sectionsOk x.sections = true
  surface : x.surface ≤ 2000000
  sampleWindow : inRange 20000 2000000 x.sampleWindow = true
  nearLevel : inRange 8 32 x.nearLevel = true
  step : inRange 250 5000 x.step = true
  stepUnit : x.step % 50 = 0
  lithLength : x.lith.length ≤ 63
  lithCodes : x.lith.all (fun e => inRange 1 63 e.code) = true
  lithRising : strictlyRising (x.lith.map (·.code)) = true
  tariff : x.tariff.ok = true
  drillHold : inRange 30 900 x.drillHold = true
  tripHold : inRange 60 1800 x.tripHold = true
  lines : linesOk x.lines = true

theorem settings_inRanges_iff (x : Settings) : x.ok = true ↔ InRanges x := by
  simp only [Settings.ok, Bool.and_eq_true, decide_eq_true_eq, beq_iff_eq, and_assoc]
  constructor
  · rintro ⟨h1, h2, h3, h4, h5, h6, h7, h8, h9, h10, h11, h12, h13, h14, h15, h16, h17, h18, h19⟩
    exact ⟨h1, h2, h3, h4, h5, h6, h7, h8, h9, h10, h11, h12, h13, h14, h15, h16, h17, h18, h19⟩
  · rintro ⟨h1, h2, h3, h4, h5, h6, h7, h8, h9, h10, h11, h12, h13, h14, h15, h16, h17, h18, h19⟩
    exact ⟨h1, h2, h3, h4, h5, h6, h7, h8, h9, h10, h11, h12, h13, h14, h15, h16, h17, h18, h19⟩

theorem inRange_bringIn {lo hi : Nat} (h : lo ≤ hi) (v : Nat) : inRange lo hi (bringIn lo hi v) = true :=
  inRange_iff.mpr (bringIn_mem h v)

/-- An operation that changes settings alone, and keeps them in range. -/
theorem Keeps.of_config {s t : State} (hview : view t = { view s with config := config t })
    (hc : InRanges (config s) → InRanges (config t)) : Keeps s t := by
  simp only [view, View.mk.injEq] at hview
  obtain ⟨hbooks, hmetered, hvolumes, -, hslots, hqueue, hlines⟩ := hview
  refine ⟨.of_books hbooks (metersOk_of_metered (congrArg Books.state hbooks) hmetered) (liftOk_of_volumes hvolumes) ?_,
    linesOk_of_lineSettings hlines⟩
  rintro ⟨hok, hstored⟩
  refine ⟨(settings_inRanges_iff _).mpr (hc ((settings_inRanges_iff _).mp hok)), ?_⟩
  unfold StoredOk
  rw [hslots, hqueue]
  exact hstored

@[simp] theorem view_mark (s : State) (f : Marks → Marks) : view (s.mark f) = view s :=
  (view_fireLevel _ _ _ _).trans (view_modRst rfl rfl)

theorem Keeps.mark (s : State) (f : Marks → Marks) : Keeps s (s.mark f) := .of_view (view_mark s f)

/-! ### Rod classes and depth limits (R1, R9) -/

theorem all_setIfInBounds {α : Type} {n : Nat} {p : α → Bool} {v : Vector α n} (h : v.toList.all p = true) {x : α}
    (hx : p x = true) (i : Nat) : (v.setIfInBounds i x).toList.all p = true := by
  rw [List.all_eq_true] at h ⊢
  intro y hy
  rw [Vector.toList_setIfInBounds] at hy
  rcases List.mem_or_eq_of_mem_set hy with hmem | rfl
  · exact h y hmem
  · exact hx

theorem Keeps.putClass (s : State) (cls : Nat) {c : Option RodClass} (hc : c.all RodClass.ok = true) :
    Keeps s (s.putClass cls c) :=
  .of_config rfl fun h => { h with classes := all_setIfInBounds h.classes hc _ }

theorem keeps_setRodClass (cls : Nat) (defined : Bool) (thread cap torque : Nat) (s : State) :
    Keeps s (ownSetRodClass cls defined thread cap torque s).1 := by
  unfold ownSetRodClass
  refine .refused fun _ => .refused fun hthread => .refused fun _ => ?_
  split
  next hdefined =>
    dsimp only [say]
    refine (Keeps.putClass s cls (c := some _) ?_).trans (.mark _ _)
    have hrange : inRange 1 15 thread = true := by simpa [hdefined] using hthread
    simp only [Option.all_some, RodClass.ok, hrange, inRange_bringIn, Bool.and_true, Nat.reduceLeDiff]
  next => exact Keeps.putClass s cls rfl

theorem keeps_setDepthLimits (cpm tol : Nat) (s : State) : Keeps s (ownSetDepthLimits cpm tol s).1 :=
  .of_config rfl fun h =>
    { h with cpm := inRange_bringIn (by decide) cpm, tol := inRange_bringIn (by decide) tol }

/-! ### Pumps and limits (R43, R51) -/

theorem pumpConstOf_ok (disp eff timeout : Nat) : (pumpConstOf disp eff timeout).ok = true := by
  simp only [PumpConst.ok, pumpConstOf, Option.all_some, inRange_bringIn, Nat.reduceLeDiff, Bool.and_true]

theorem keeps_setPump (pump disp eff timeout : Nat) (s : State) : Keeps s (ownSetPump pump disp eff timeout s).1 := by
  unfold ownSetPump
  split
  next => exact .refl s
  next p _ =>
    have hconst := pumpConstOf_ok disp eff timeout
    have hput : Keeps s (s.modCcu fun u => u.putPump p { u.pump p with const := pumpConstOf disp eff timeout }) := by
      cases p with
      | one => exact .of_config rfl fun h => { h with pump1 := hconst }
      | two => exact .of_config rfl fun h => { h with pump2 := hconst }
    dsimp only [say]
    split
    · exact hput.trans (.mark _ _)
    · exact hput

theorem keeps_setCirculationLimits (g f t w p : Nat) (s : State) : Keeps s (ownSetCirculationLimits g f t w p s).1 := by
  refine Keeps.accepted (c := (limitsOf g f t w p).fullT < _ ∧ _) fun hc => .of_config rfl fun h => { h with limits := ?_ }
  show (limitsOf g f t w p).ok = true
  simp only [CircLimits.ok, hc.1, hc.2]
  simp only [limitsOf, inRange_bringIn, Nat.reduceLeDiff, decide_true, Bool.and_true]

/-! ### Sections, window, step, lithology (R62, R79, R96, R100) -/

theorem keeps_setHoleSections (sections : List (Nat × Nat)) (surface : Nat) (s : State) :
    Keeps s (ownSetHoleSections sections surface s).1 := by
  unfold ownSetHoleSections
  refine .refused fun hlength => .refused fun hdepths => .refused fun hrising => ?_
  have hsections : sectionsOk (sections.map fun x => (⟨x.1, bringIn 1000 400000 x.2⟩ : Section)) = true := by
    simp only [Bool.not_eq_false] at hlength hdepths hrising
    simp only [sectionsOk, List.length_map, hlength, List.map_map, Function.comp_def, hrising, List.all_map,
      inRange_bringIn, Nat.reduceLeDiff, Bool.and_true, Bool.true_and]
    exact hdepths
  have hsurface : bringIn 0 2000000 surface ≤ 2000000 := (bringIn_mem (Nat.zero_le _) surface).2
  dsimp only [say]
  refine Keeps.trans ?_ (.mark _ _)
  exact .of_config rfl fun h => { h with sections := hsections, surface := hsurface }

@[simp] theorem view_evalNearFull (s : State) : view s.evalNearFull = view s := view_fireLevel _ _ _ _

theorem keeps_setSampleWindow (volume level : Nat) (s : State) : Keeps s (ownSetSampleWindow volume level s).1 := by
  have hvolume : inRange 20000 2000000 (bringIn 20000 2000000 volume) = true := inRange_bringIn (by decide) _
  have hlevel : inRange 8 32 (bringIn 8 32 level) = true := inRange_bringIn (by decide) _
  unfold ownSetSampleWindow
  dsimp only [say]
  refine Keeps.trans ?_ (.of_view (view_evalNearFull _))
  exact .of_config rfl fun h => { h with sampleWindow := hvolume, nearLevel := hlevel }

theorem stepOf_mem (step : Nat) : inRange 250 5000 (stepOf step) = true ∧ stepOf step % 50 = 0 := by
  obtain ⟨hlo, hhi⟩ := bringIn_mem (lo := 250) (hi := 5000) (by decide) step
  rw [inRange_iff, stepOf]
  omega

theorem keeps_setIntervalStep (step : Nat) (s : State) : Keeps s (ownSetIntervalStep step s).1 :=
  .of_config rfl fun h => { h with step := (stepOf_mem step).1, stepUnit := (stepOf_mem step).2 }

/-- A table entry in place of one of its code, or a new one. -/
theorem length_insertRising_le {α : Type} (key : α → Nat) (x : α) (l : List α) : (insertRising key x l).length ≤ l.length + 1 := by
  induction l with
  | nil => exact le_rfl
  | cons y l ih =>
    unfold insertRising
    split
    · exact le_rfl
    · split
      · exact Nat.le_succ _
      · exact Nat.succ_le_succ ih

/-- Table entries in range, inserted in turn, leave a table in range no longer than before and they together (R100). -/
theorem lith_foldl (table : List LithEntry) : ∀ acc : List LithEntry, (∀ e ∈ table, inRange 1 63 e.code = true) →
    (∀ e ∈ acc, inRange 1 63 e.code = true) → (acc.map (·.code)).Pairwise (· < ·) →
    let l := table.foldl (fun acc e => insertRising (·.code) e acc) acc
    l.length ≤ acc.length + table.length ∧ (∀ e ∈ l, inRange 1 63 e.code = true) ∧ (l.map (·.code)).Pairwise (· < ·) := by
  induction table with
  | nil => exact fun acc _ hacc hrising => ⟨le_rfl, hacc, hrising⟩
  | cons x table ih =>
    intro acc htable hacc hrising
    obtain ⟨hx, htable⟩ := List.forall_mem_cons.mp htable
    have hlen := length_insertRising_le (·.code) x acc
    obtain ⟨hlength, hcodes, hrise⟩ := ih (insertRising (·.code) x acc) htable
      (fun e he => (mem_insertRising _ x e acc he).elim (fun h => h ▸ hx) (hacc e)) (insertRising_rising _ x acc hrising)
    exact ⟨by simp only [List.length_cons, List.foldl_cons]; omega, hcodes, hrise⟩

theorem lithEntry_code {x : Nat × Nat} {e : LithEntry} (h : lithEntry x = some e) : inRange 1 63 e.code = true := by
  unfold lithEntry at h
  split at h
  next hcode =>
    obtain ⟨c, -, rfl⟩ := Option.map_eq_some_iff.mp h
    exact hcode
  next => cases h

theorem keeps_setLithologyTable (entries : List (Nat × Nat)) (s : State) :
    Keeps s (ownSetLithologyTable entries s).1 := by
  unfold ownSetLithologyTable
  refine .refused fun hlength => .refused fun _ => .refused fun _ => .of_config rfl fun h => ?_
  have hcodes : ∀ e ∈ entries.filterMap lithEntry, inRange 1 63 e.code = true := fun e he => by
    obtain ⟨x, -, hx⟩ := List.mem_filterMap.mp he
    exact lithEntry_code hx
  obtain ⟨hlen, hall, hrising⟩ := lith_foldl (entries.filterMap lithEntry) [] hcodes nofun .nil
  simp only [not_or, Nat.not_lt, not_not] at hlength
  exact { h with
    lithLength := hlen.trans (by simp only [List.length_nil]; omega)
    lithCodes := List.all_eq_true.mpr hall
    lithRising := (strictlyRising_iff _).mpr hrising }

/-! ### Tariffs (R126) -/

theorem mapTable_all {n : Nat} (v : Vector Nat n) : (mapTable (min maxPrice) v).toList.all (fun p => p ≤ maxPrice) = true := by
  simp [mapTable]

theorem broughtIn_ok {t : Tariff} (hzero : t.bounds[0] = 0) (hdepths : t.bounds.toList.all (fun b => b ≤ maxDepth) = true)
    (hrising : strictlyRising t.bounds.toList = true) : t.broughtIn.ok = true := by
  simp only [Tariff.ok, Tariff.broughtIn, hzero, hdepths, hrising, mapTable_all, Nat.min_le_left, beq_self_eq_true,
    decide_true, Bool.and_true]

theorem keeps_setTariffs (table : Tariff) (drillHold tripHold : Nat) (s : State) :
    Keeps s (ownSetTariffs table drillHold tripHold s).1 := by
  unfold ownSetTariffs
  split
  · exact .refl s
  · refine .refused fun hzero => .refused fun hdepths => .refused fun hrising => ?_
    simp only [not_not, Bool.not_eq_false] at hzero hdepths hrising
    have htable := broughtIn_ok hzero hdepths hrising
    have hdrill : inRange 30 900 (bringIn 30 900 drillHold) = true := inRange_bringIn (by decide) _
    have htrip : inRange 60 1800 (bringIn 60 1800 tripHold) = true := inRange_bringIn (by decide) _
    dsimp only [say]
    refine Keeps.trans ?_ (.mark _ _)
    exact .of_config rfl fun h => { h with tariff := htable, drillHold := hdrill, tripHold := htrip }

end Sys2Proof.CirculationProofs
end

section
/-! What Set Line Function keeps (R159 to R161). -/

namespace Sys2Proof.CirculationProofs

open Sys2Proof Machine ConnectionProofs

/-! ### The settings of the lines, by line -/

/-- The settings of the lines are in range: one field a rule (R159 to R161). -/
structure LinesIn (f : Fin 12 → LineCfg × Bool) : Prop where
  claimed : ∀ i, (f i).2 = true ↔ i = 5 ∧ (f 4).1.fn = .encoder
  ok : ∀ i, (f i).1.okOn i = true
  shared : ∀ i j, i ≠ j → (f i).1.fn = (f j).1.fn → (f i).1.fn.unique = true → (f i).1.fn = .encoder
  pair : (f 4).1.fn = .encoder ↔ (f 5).1.fn = .encoder

/-- ENCODER stands on FL4 and FL5 alone (R160). -/
theorem encoder_place {c : LineCfg} {i : Fin 12} (h : c.okOn i = true) (hfn : c.fn = .encoder) : i = 4 ∨ i = 5 := by
  simp only [LineCfg.okOn, hfn, LineFn.allowedOn, Bool.and_eq_true, Bool.or_eq_true, beq_iff_eq] at h
  tauto

theorem sharedOk_iff {i j : Fin 12} {c d : LineCfg} (hc : c.okOn i = true) (hd : d.okOn j = true) :
    sharedOk i j c.fn d.fn = true ↔ (i ≠ j → c.fn = d.fn → c.fn.unique = true → c.fn = .encoder) := by
  have hi := encoder_place hc
  have hj := encoder_place hd
  simp only [sharedOk, Bool.or_eq_true, Bool.and_eq_true, beq_iff_eq, bne_iff_ne, Bool.not_eq_true']
  constructor
  · rintro ((h | h) | h)  hne heq hunique <;> simp_all
  · intro h
    by_cases hne : i = j
    · simp [hne]
    by_cases heq : c.fn = d.fn
    · cases hunique : c.fn.unique with
      | false => simp
      | true =>
        have henc := h hne heq hunique
        exact .inr ⟨⟨henc, hi henc⟩, hj (heq ▸ henc)⟩
    · simp [heq]

theorem linesOk_iff (u : FieldUnit) : LinesOk u ↔ LinesIn (lineSettings u) := by
  have hget : ∀ i : Fin 12, (lineCfgs u)[i] = (lineSettings u i).1 := fun i => by simp [lineCfgs_eq, lineSettings]
  have hclaim : ∀ i : Fin 12, (u.line i).claimed = (i == 5 && (u.line 4).cfg.fn == .encoder) ↔
      ((lineSettings u i).2 = true ↔ i = 5 ∧ (lineSettings u 4).1.fn = .encoder) := fun i => by
    rw [Bool.eq_iff_iff]
    simp [lineSettings]
  have hpair : ((lineCfgs u)[4].fn == .encoder) = ((lineCfgs u)[5].fn == .encoder) ↔
      ((lineSettings u 4).1.fn = .encoder ↔ (lineSettings u 5).1.fn = .encoder) := by
    rw [Bool.eq_iff_iff, beq_iff_eq, beq_iff_eq, ← hget, ← hget]
    exact Iff.rfl
  unfold LinesOk linesOk
  simp only [hclaim, Bool.and_eq_true, beq_iff_eq, hpair, List.all_eq_true, List.mem_finRange, forall_const, hget]
  constructor
  · rintro ⟨hclaimed, hall, hpair⟩
    exact ⟨hclaimed, fun i => (hall i).1, fun i j => (sharedOk_iff (hall i).1 (hall j).1).mp ((hall i).2 j), hpair⟩
  · rintro ⟨hclaimed, hok, hshared, hpair⟩
    exact ⟨hclaimed, fun i => ⟨hok i, fun j => (sharedOk_iff (hok i) (hok j)).mpr (hshared i j)⟩, hpair⟩

/-! ### The lines after a change of function (R161) -/

/-- FL5's settings when FL4 gives ENCODER up (R161, step 1). -/
def freed (c : LineCfg) : LineCfg := ⟨.generalIn, c.pol, some LineFn.generalIn.defaultFilter⟩

/-- The settings of the lines after a change of line `i`'s function. -/
def changedLines (f : Fin 12 → LineCfg × Bool) (i : Fin 12) (cfg : LineCfg) (j : Fin 12) : LineCfg × Bool :=
  if j = 5 ∧ cfg.fn = .encoder then (cfg, true)
  else if j = i then (cfg, false)
  else if j = 5 ∧ (f i).1.fn = .encoder then (freed (f 5).1, false)
  else f j

section
variable {f : Fin 12 → LineCfg × Bool} {i : Fin 12} {cfg : LineCfg}

/-- The checks of Set Line Function, in the settings of the lines (R160). -/
structure Admits (f : Fin 12 → LineCfg × Bool) (i : Fin 12) (cfg : LineCfg) : Prop where
  allowed : cfg.fn.allowedOn i = true
  filter : cfg.okOn i = true
  free : i = 5 → (f 5).2 = false
  alone : cfg.fn.unique = true → ∀ j, j ≠ i → (f j).1.fn = cfg.fn → (f j).2 = true

theorem Admits.encoder (h : Admits f i cfg) (hfn : cfg.fn = .encoder) : i = 4 := by
  have hallowed := h.allowed
  simpa [hfn, LineFn.allowedOn] using hallowed

theorem Admits.encoder_before (h : Admits f i cfg) (hf : LinesIn f) (hfn : (f i).1.fn = .encoder) : i = 4 := by
  rcases encoder_place (hf.ok i) hfn with h4 | h5
  · exact h4
  · have hclaimed := (hf.claimed 5).mpr ⟨rfl, hf.pair.mpr (h5 ▸ hfn)⟩
    rw [h.free h5] at hclaimed
    cases hclaimed

/-- A change of function that takes or gives up no ENCODER is of one line alone. -/
theorem changedLines_of_ne (hnew : cfg.fn ≠ .encoder) (hold : (f i).1.fn ≠ .encoder) (j : Fin 12) :
    changedLines f i cfg j = if j = i then (cfg, false) else f j := by simp [changedLines, hnew, hold]

/-- No other line's function stands in the way of a unique one, but FL5's ENCODER (R160). -/
theorem Admits.shared (hf : LinesIn f) (h : Admits f i cfg) {j : Fin 12} (hj : j ≠ i) (heq : (f j).1.fn = cfg.fn)
    (hunique : cfg.fn.unique = true) : cfg.fn = .encoder := by
  obtain ⟨rfl, hfour⟩ := (hf.claimed j).mp (h.alone hunique j hj heq)
  exact heq ▸ hf.pair.mp hfour

/-- A change that takes or gives up no ENCODER (R161). -/
theorem linesIn_changed_plain (hf : LinesIn f) (h : Admits f i cfg) (hnew : cfg.fn ≠ .encoder)
    (hold : (f i).1.fn ≠ .encoder) : LinesIn (changedLines f i cfg) := by
  have hget := changedLines_of_ne hnew hold
  have henc : ∀ j, (changedLines f i cfg j).1.fn = .encoder ↔ (f j).1.fn = .encoder := fun j => by
    rw [hget]
    split
    next hj => exact ⟨fun hc => absurd hc hnew, fun hc => absurd (hj ▸ hc) hold⟩
    next => exact Iff.rfl
  constructor
  · intro j
    rw [henc, hget]
    split
    next hj =>
      refine ⟨nofun, fun ⟨h5, h4⟩ => ?_⟩
      have hclaimed := (hf.claimed 5).mpr ⟨rfl, h4⟩
      rw [h.free (hj ▸ h5)] at hclaimed
      cases hclaimed
    next => exact hf.claimed j
  · intro j
    rw [hget]
    split
    next hj => exact hj ▸ h.filter
    next => exact hf.ok j
  · intro j k hne heq hunique
    rw [hget] at heq hunique ⊢
    rw [hget] at heq
    split at heq
    next hj =>
      rw [if_neg (hj ▸ hne.symm)] at heq
      rw [if_pos hj] at hunique ⊢
      exact h.shared hf (hj ▸ hne.symm) heq.symm hunique
    next hj =>
      rw [if_neg hj] at hunique ⊢
      split at heq
      next hk => exact heq ▸ h.shared hf (hk ▸ hne) heq (heq ▸ hunique)
      next => exact hf.shared j k hne heq hunique
  · rw [henc, henc]
    exact hf.pair

/-- ENCODER on FL4, which FL5 then serves (R161). -/
theorem linesIn_changed_encoder (hf : LinesIn f) (h : Admits f 4 cfg) (hnew : cfg.fn = .encoder) :
    LinesIn (changedLines f 4 cfg) := by
  have hget : ∀ j, changedLines f 4 cfg j = if j = 5 then (cfg, true) else if j = 4 then (cfg, false) else f j := fun j => by
    simp only [changedLines, hnew, and_true]
    by_cases h5 : j = 5 <;> simp [h5]
  have hother : ∀ j, j ≠ 5 → j ≠ 4 → (f j).1.fn ≠ .encoder := fun j h5 h4 hfn =>
    (encoder_place (hf.ok j) hfn).elim h4 h5
  have hfour : (changedLines f 4 cfg 4).1.fn = .encoder := by simp [hget, hnew]
  constructor
  · intro j
    rw [hget]
    split
    next h5 => exact ⟨fun _ => ⟨h5, hfour⟩, fun _ => rfl⟩
    next h5 =>
      refine iff_of_false ?_ fun hc => h5 hc.1
      split
      · nofun
      · exact fun hc => h5 ((hf.claimed j).mp hc).1
  · intro j
    rw [hget]
    have hok := h.filter
    split
    next h5 =>
      subst h5
      simp only [LineCfg.okOn, hnew] at hok ⊢
      exact hok
    next =>
      split
      next h4 => exact h4 ▸ hok
      next => exact hf.ok j
  · intro j k hne heq hunique
    have hpair : ∀ j, j = 4 ∨ j = 5 → (changedLines f 4 cfg j).1.fn = .encoder := by
      rintro j (rfl | rfl) <;> simp [hget, hnew]
    have hout : ∀ j, ¬ (j = 4 ∨ j = 5) → changedLines f 4 cfg j = f j := fun j hj => by
      rw [not_or] at hj
      simp [hget, hj]
    by_cases hj : j = 4 ∨ j = 5
    · exact hpair j hj
    · by_cases hk : k = 4 ∨ k = 5
      · exact heq.trans (hpair k hk)
      · rw [hout j hj] at heq hunique ⊢
        rw [hout k hk] at heq
        exact hf.shared j k hne heq hunique
  · simp [hget, hnew]

/-- FL4 gives ENCODER up, and FL5 with it (R161). -/
theorem linesIn_changed_freed (hf : LinesIn f) (h : Admits f 4 cfg) (hnew : cfg.fn ≠ .encoder)
    (hold : (f 4).1.fn = .encoder) : LinesIn (changedLines f 4 cfg) := by
  have hget : ∀ j, changedLines f 4 cfg j = if j = 4 then (cfg, false) else if j = 5 then (freed (f 5).1, false) else f j :=
    fun j => by simp [changedLines, hnew, hold]
  have hfour : changedLines f 4 cfg 4 = (cfg, false) := hget 4
  have hfive : changedLines f 4 cfg 5 = (freed (f 5).1, false) := hget 5
  have hout : ∀ j, j ≠ 4 → j ≠ 5 → changedLines f 4 cfg j = f j := fun j h4 h5 => by simp [hget, h4, h5]
  constructor
  · intro j
    rw [hfour]
    refine iff_of_false ?_ fun hc => hnew hc.2
    by_cases h4 : j = 4
    · rw [h4, hfour]
      nofun
    · by_cases h5 : j = 5
      · rw [h5, hfive]
        nofun
      · rw [hout j h4 h5]
        exact fun hc => h5 ((hf.claimed j).mp hc).1
  · intro j
    by_cases h4 : j = 4
    · rw [h4, hfour]
      exact h.filter
    · by_cases h5 : j = 5
      · rw [h5, hfive]
        rfl
      · rw [hout j h4 h5]
        exact hf.ok j
  · have hfree : (changedLines f 4 cfg 5).1.fn.unique = false := by rw [hfive]; rfl
    intro j k hne heq hunique
    have hj5 : j ≠ 5 := by
      rintro rfl
      rw [hfree] at hunique
      cases hunique
    have hk5 : k ≠ 5 := by
      rintro rfl
      rw [heq, hfree] at hunique
      cases hunique
    by_cases hj4 : j = 4
    · subst hj4
      rw [hfour, hout k hne.symm hk5] at heq
      rw [hfour] at hunique ⊢
      exact h.shared hf hne.symm heq.symm hunique
    · rw [hout j hj4 hj5] at heq hunique ⊢
      by_cases hk4 : k = 4
      · subst hk4
        rw [hfour] at heq
        exact heq.trans (h.shared hf hne heq (heq ▸ hunique))
      · rw [hout k hk4 hk5] at heq
        exact hf.shared j k hne heq hunique
  · rw [hfour, hfive]
    exact iff_of_false hnew nofun

theorem linesIn_changed (hf : LinesIn f) (h : Admits f i cfg) : LinesIn (changedLines f i cfg) := by
  by_cases hnew : cfg.fn = .encoder
  · obtain rfl := h.encoder hnew
    exact linesIn_changed_encoder hf h hnew
  · by_cases hold : (f i).1.fn = .encoder
    · obtain rfl := h.encoder_before hf hold
      exact linesIn_changed_freed hf h hnew hold
    · exact linesIn_changed_plain hf h hnew hold

end

/-! ### Set Line Function (R160, R161) -/

@[simp] theorem lineSettings_put (u : FieldUnit) (i : Fin 12) (r : LineRec) (j : Fin 12) :
    lineSettings (u.putLine i r) j = if j = i then (r.cfg, r.claimed) else lineSettings u j := by
  by_cases h : j = i
  · subst h
    simp [lineSettings]
  · simp [lineSettings, FieldUnit.line_putLine_ne u r h, h]

/-- Step 1 of a change of function: the lines concerned are released (R161). -/
def linesFreed (s : State) (i : Fin 12) (cfg : LineCfg) : State :=
  let old := (s.flu.line i).cfg.fn
  let s := s.modFlu (fun u => u.putLine i (u.line i).release)
  if old = .encoder ∧ cfg.fn ≠ .encoder then
    s.modFlu (fun u => u.putLine 5
      ((u.line 5).start ⟨.generalIn, (u.line 5).cfg.pol, some LineFn.generalIn.defaultFilter⟩ false s.now))
  else if cfg.fn = .encoder then s.modFlu (fun u => u.putLine 5 (u.line 5).release)
  else s

/-- Step 2: what rests on the old function ends, the encoder's reference or the slips (R161). -/
def functionEnded (s : State) (old : LineFn) : State :=
  let s := if old = .encoder then s.modFlu (fun u => { u with encRef := none }) else s
  if old = .slips ∧ s.str.slips = .set then s.slipsReleasedEdge else s

/-- Step 3: the lines concerned take the function (R161). -/
def taken (s : State) (i : Fin 12) (cfg : LineCfg) : State :=
  let s := s.modFlu (fun u => u.putLine i ((u.line i).start cfg false s.now))
  if cfg.fn = .encoder then s.modFlu (fun u => u.putLine 5 ((u.line 5).start cfg true s.now)) else s

theorem changeFunction_eq (s : State) (i : Fin 12) (cfg : LineCfg) :
    s.changeFunction i cfg = taken (functionEnded (linesFreed s i cfg) (s.flu.line i).cfg.fn) i cfg := rfl

theorem lines_of_view {s t : State} (h : view t = view s) : lineSettings t.flu = lineSettings s.flu := congrArg View.lines h

theorem lines_holeRule (s : State) : lineSettings s.holeRule.flu = lineSettings s.flu := by
  unfold State.holeRule
  split
  · have hflu : s.advanceHole.flu = (deepened s).flu := congrArg Rig.flu (Advances.advanceHole s).rig
    rw [hflu]
    rfl
  · rfl

theorem lines_slipsReleasedEdge (s : State) : lineSettings s.slipsReleasedEdge.flu = lineSettings s.flu := by
  unfold State.slipsReleasedEdge
  refine (lines_of_view (view_connReleased _)).trans ?_
  split
  · dsimp only
    split
    · unfold State.compareAtRelease
      dsimp only
      split
      · rw [lines_holeRule, lines_of_view (view_takeDepth _ _)]
        rfl
      · rfl
    · rfl
  · rfl

theorem lines_taken (s : State) (i : Fin 12) (cfg : LineCfg) (j : Fin 12) :
    lineSettings (taken s i cfg).flu j =
      if j = 5 ∧ cfg.fn = .encoder then (cfg, true) else if j = i then (cfg, false) else lineSettings s.flu j := by
  unfold taken
  by_cases hnew : cfg.fn = .encoder
  · simp [hnew, LineRec.start]
  · simp [hnew, LineRec.start]

theorem lines_functionEnded (s : State) (old : LineFn) : lineSettings (functionEnded s old).flu = lineSettings s.flu := by
  have hend : lineSettings (if old = .encoder then s.modFlu fun u => { u with encRef := none } else s).flu =
      lineSettings s.flu := by
    split <;> rfl
  have hslips : ∀ u : State,
      lineSettings (if old = .slips ∧ u.str.slips = .set then u.slipsReleasedEdge else u).flu = lineSettings u.flu := by
    intro u
    split
    · exact lines_slipsReleasedEdge u
    · rfl
  exact (hslips _).trans hend

theorem lines_linesFreed (s : State) (i : Fin 12) (cfg : LineCfg) {j : Fin 12} (hj : j ≠ i)
    (hnew : ¬ (j = 5 ∧ cfg.fn = .encoder)) :
    lineSettings (linesFreed s i cfg).flu j =
      if j = 5 ∧ (lineSettings s.flu i).1.fn = .encoder then (freed (lineSettings s.flu 5).1, false)
      else lineSettings s.flu j := by
  have hfn : (lineSettings s.flu i).1.fn = (s.flu.line i).cfg.fn := rfl
  unfold linesFreed
  rw [hfn]
  by_cases hold : (s.flu.line i).cfg.fn = .encoder <;> by_cases henc : cfg.fn = .encoder
  · have h5 : j ≠ 5 := fun h => hnew ⟨h, henc⟩
    simp [hold, henc, hj, h5]
  · by_cases h5 : j = 5
    · subst h5
      have hline : ((s.flu.putLine i (s.flu.line i).release).line 5) = s.flu.line 5 := FieldUnit.line_putLine_ne _ _ hj
      simp [hold, henc, LineRec.start, hline, freed, lineSettings]
    · simp [hold, henc, hj, h5]
  · have h5 : j ≠ 5 := fun h => hnew ⟨h, henc⟩
    simp [hold, henc, hj, h5]
  · simp [hold, henc, hj]

/-- The settings of the lines after a change of function (R161). -/
theorem lines_changeFunction (s : State) (i : Fin 12) (cfg : LineCfg) :
    lineSettings (s.changeFunction i cfg).flu = changedLines (lineSettings s.flu) i cfg := by
  funext j
  rw [changeFunction_eq, lines_taken, changedLines, lines_functionEnded]
  split
  next => rfl
  next hnew =>
    split
    next => rfl
    next hj => exact lines_linesFreed s i cfg hj hnew

theorem KeepsBooks.modFlu (s : State) (f : FieldUnit → FieldUnit) : KeepsBooks s (s.modFlu f) := .of_books rfl id id id

/-- A change of a line's settings touches nothing else, but for the slips released with their line (R161). -/
theorem keepsBooks_changeFunction (s : State) (i : Fin 12) (cfg : LineCfg) : KeepsBooks s (s.changeFunction i cfg) := by
  have hif : ∀ (c : Prop) [Decidable c] (t : State) (f : FieldUnit → FieldUnit), KeepsBooks t (if c then t.modFlu f else t) := by
    intro c _ t f
    split
    · exact .modFlu t f
    · exact (Keeps.refl t).toKeepsBooks
  have hfreed : KeepsBooks s (linesFreed s i cfg) := by
    refine (KeepsBooks.modFlu s fun u => u.putLine i (u.line i).release).trans ?_
    unfold linesFreed
    dsimp only
    split
    · exact .modFlu _ _
    · exact hif _ _ _
  have hended : ∀ t old, KeepsBooks t (functionEnded t old) := by
    intro t old
    have hslips : ∀ u : State, KeepsBooks u (if old = .slips ∧ u.str.slips = .set then u.slipsReleasedEdge else u) := by
      intro u
      split
      · exact (Keeps.slipsReleasedEdge u).toKeepsBooks
      · exact (Keeps.refl u).toKeepsBooks
    exact (hif (old = .encoder) t fun u => { u with encRef := none }).trans (hslips _)
  rw [changeFunction_eq]
  exact (hfreed.trans (hended _ _)).trans ((KeepsBooks.modFlu _ _).trans (hif _ _ _))

theorem okOn_filter {fn : LineFn} {pol : Polarity} {i : Fin 12} (h : fn.allowedOn i = true) (filter : Nat) :
    (⟨fn, pol, if fn.isInput then some (filterOf fn filter) else none⟩ : LineCfg).okOn i = true := by
  have hrange : inRange 5 200 (filterOf fn filter) = true ∨ filterOf fn filter = fn.defaultFilter := by
    unfold filterOf
    split
    · exact .inr rfl
    · exact .inl (inRange_bringIn (by decide) filter)
  cases hinput : fn.isInput with
  | false => simp [LineCfg.okOn, h, hinput]
  | true => simpa [LineCfg.okOn, h, hinput] using hrange

theorem keeps_setLineFunction (line function polarity filter : Nat) (s : State) :
    Keeps s (ownSetLineFunction line function polarity filter s).1 := by
  unfold ownSetLineFunction
  split
  next hline =>
    split
    next fn pol _ _ =>
      refine .refused fun hallowed => .refused fun hfree => .refused fun halone => ?_
      refine ⟨keepsBooks_changeFunction _ _ _, fun hl => ?_⟩
      rw [linesOk_iff] at hl ⊢
      dsimp only [say]
      rw [lines_changeFunction]
      simp only [Bool.not_eq_false] at hallowed
      refine linesIn_changed hl ⟨hallowed, okOn_filter hallowed filter, fun h5 => ?_, fun hunique j hj hfn => ?_⟩
      · rw [lineSettings]
        by_contra hclaimed
        exact hfree ⟨h5, by simpa using hclaimed⟩
      · by_contra hclaimed
        refine halone ?_
        rw [Bool.and_eq_true, FieldUnit.heldElsewhere, List.any_eq_true]
        refine ⟨hunique, j, List.mem_finRange j, ?_⟩
        simp only [lineSettings, Bool.not_eq_true] at hfn hclaimed
        simp [hj, hfn, hclaimed]
    next => exact .refl s
  next => exact .refl s

end Sys2Proof.CirculationProofs
end

section
/-! What every other request keeps, and every step (R55, R112, R116). -/

namespace Sys2Proof.CirculationProofs

open Sys2Proof Machine ConnectionProofs

/-! ### Rods and strings (R3 to R7, R18, R19) -/

theorem Keeps.moveRod (s : State) (id : Nat) (st : RodState) : Keeps s (s.moveRod id st) := .of_view (view_modStr rfl)

theorem keeps_registerRod (rod cls len : Nat) (s : State) : Keeps s (ownRegisterRod rod cls len s).1 :=
  .refused fun _ => .refused fun _ => .refused fun _ => .refused fun _ => .of_view (view_modStr rfl)

theorem keeps_layDownRod (rod : Nat) (s : State) : Keeps s (ownLayDownRod rod s).1 := by
  unfold ownLayDownRod
  split
  · exact .refl s
  · exact .accepted fun _ => .moveRod s rod _

theorem keeps_restoreRod (rod : Nat) (s : State) : Keeps s (ownRestoreRod rod s).1 := by
  unfold ownRestoreRod
  split
  · exact .refl s
  · exact .accepted fun _ => .moveRod s rod _

theorem keeps_retireRod (rod : Nat) (s : State) : Keeps s (ownRetireRod rod s).1 := by
  unfold ownRetireRod
  split
  · exact .refl s
  · exact .accepted fun _ => .of_view (view_modStr rfl)

theorem keeps_setBha (len cap thread : Nat) (s : State) : Keeps s (ownSetBha len cap thread s).1 :=
  .refused fun _ => .refused fun _ => .refused fun _ => (Keeps.of_view (view_modStr rfl)).trans (.rebase _)

theorem keeps_setBlockHeight (height : Nat) (s : State) : Keeps s (ownSetBlockHeight height s).1 := .setHeight s _

theorem keeps_declareString (len cap thread : Nat) (runs : List (Nat × Nat)) (s : State) :
    Keeps s (ownDeclareString len cap thread runs s).1 := by
  unfold ownDeclareString
  split
  · exact .refl s
  · exact .refl s
  · refine .refused fun _ => .refused fun _ => .refused fun _ => .refused fun _ => .refused fun _ => .refused fun _ =>
      .refused fun _ => .refused fun _ => ?_
    dsimp only [say]
    exact Keeps.trans (.of_view (view_modStr rfl)) (.rebase _)

theorem view_countLost (s : State) (lost : List Nat) : view (s.countLost lost) = view s := by
  unfold State.countLost
  split <;> rfl

theorem keeps_declareParted (k : Nat) (s : State) : Keeps s (ownDeclareParted k s).1 := by
  refine .refused fun _ => ?_
  split
  · exact .refl s
  · refine .refused fun _ => .of_view ?_
    dsimp only [say, State.bottomLost]
    rw [view_modStr rfl, view_modStr rfl, view_countLost, view_modStr rfl]

/-! ### Connections (R23 to R38) -/

@[simp] theorem view_setHandling (s : State) (rod : Option Nat) : view (s.setHandling rod) = view s := rfl

@[simp] theorem view_complete (s : State) (kind : CompletionKind) (rod torque : Option Nat) (resolution : Option Resolution) :
    view (s.complete kind rod torque resolution) = view s := rfl

@[simp] theorem view_moveRod (s : State) (id : Nat) (st : RodState) : view (s.moveRod id st) = view s := view_modStr rfl

@[simp] theorem view_putHandled (s : State) (st : RodState) : view (s.putHandled st) = view s := by
  unfold State.putHandled
  split
  · exact view_moveRod s _ _
  · rfl

theorem view_appendTop (s : State) (id : Nat) : view (s.appendTop id) = view s := by
  unfold State.appendTop
  dsimp only
  split
  · rw [view_raiseOffset]
    exact view_modStr rfl
  · exact view_modStr rfl

@[simp] theorem view_joinHandled (s : State) : view s.joinHandled = view s := by
  unfold State.joinHandled
  split
  · exact view_appendTop s _
  · rfl

@[simp] theorem view_takeTop (s : State) : view s.takeTop = view s := by
  unfold State.takeTop
  split
  · rw [view_setHandling]
    exact view_modStr rfl
  · rfl

theorem view_resolveRod (s : State) (r : Resolution) : view (s.resolveRod r) = view s := by
  cases r with
  | keep => exact view_joinHandled s
  | restore => rfl
  | _ => exact view_putHandled s _

theorem keeps_pick (rod : Nat) (s : State) : Keeps s (ownPick rod s).1 := by
  refine .refused fun _ => ?_
  split
  · exact .refl s
  · exact .of_view (by simp [say])

theorem keeps_stab (s : State) : Keeps s (ownStab s).1 := .accepted fun _ => .of_view (by simp [say])

theorem keeps_madeUp (torque : Nat) (s : State) : Keeps s (ownMadeUp torque s).1 :=
  .refused fun _ => .refused fun _ => .of_view (by simp [say])

theorem keeps_abortAdd (s : State) : Keeps s (ownAbortAdd s).1 := .accepted fun _ => .of_view (by simp [say])

theorem keeps_breakOut (s : State) : Keeps s (ownBreakOut s).1 :=
  .refused fun _ => .refused fun _ => .refused fun _ => .refused fun _ => .of_view (by simp [say])

theorem keeps_broken (s : State) : Keeps s (ownBroken s).1 :=
  .refused fun _ => .refused fun _ => .of_view (by simp [say])

theorem view_putAway (s : State) (st : RodState) (kind : CompletionKind) : view (s.putAway st kind) = view s := by
  simp [State.putAway]

theorem keeps_racked (s : State) : Keeps s (ownRacked s).1 := .accepted fun _ => .of_view (view_putAway s _ _)

theorem keeps_laidDown (s : State) : Keeps s (ownLaidDown s).1 := .accepted fun _ => .of_view (view_putAway s _ _)

theorem keeps_acknowledgeFault (resolution : Nat) (s : State) : Keeps s (ownAcknowledgeFault resolution s).1 := by
  unfold ownAcknowledgeFault
  split
  · split
    · exact .accepted fun _ => .of_view (by simp [say, view_resolveRod])
    · exact .refl s
  · exact .refl s

/-! ### Samples, strikes and notes (R87, R101, R102) -/

theorem mem_of_parcel {s : State} {n : Nat} {p : Parcel} (h : s.parcel n = some p) :
    p ∈ s.lgu.parcels ∧ p.record.interval = n :=
  ⟨List.mem_of_find?_eq_some h, by simpa using List.find?_some h⟩

theorem keeps_logSample (interval code : Nat) (colour : Option Nat) (notes : List Nat) (s : State) :
    Keeps s (ownLogSample interval code colour notes s).1 := by
  refine .refused fun _ => ?_
  split
  · exact .refl s
  · refine .refused fun _ => .refused fun _ => ?_
    split
    · exact .refl s
    next p hp =>
      split
      · exact .refl s
      · exact .refl s
      next hdue =>
        refine .refused fun _ => .finishParcel ⟨p, ?_, rfl, rfl⟩
        exact List.mem_filter.mpr ⟨(mem_of_parcel hp).1, by rw [hdue]; rfl⟩

/-- Writing into the open interval's notes or strike is not seen. -/
theorem view_setInterval {s : State} {v w : OpenInterval} (hv : s.slu.openIv = some v)
    (h : intervalFigures w = intervalFigures v) : view (s.modSlu fun u => { u with openIv := some w }) = view s :=
  view_setIntervals (closed := s.slu.closed) (by rw [hv, Option.map_some, Option.map_some, h])

theorem view_writeStrike {s t : State} {depth : Nat} (h : s.writeStrike depth = some t) : view t = view s := by
  unfold State.writeStrike at h
  split at h
  next iv hiv =>
    cases h
    exact view_setInterval (Option.filter_eq_some_iff.mp hiv).1 rfl
  next =>
    split at h
    · cases h
      exact view_modParcel fun _ _ _ => rfl
    · cases h

theorem keeps_reportWaterStrike (depth : Nat) (s : State) : Keeps s (ownReportWaterStrike depth s).1 := by
  unfold ownReportWaterStrike
  split
  · exact .refl s
  · refine .refused fun _ => .refused fun _ => ?_
    split
    next t ht => exact .of_view ((view_fire t _ _).trans (view_writeStrike ht))
    next => exact .refl s

theorem keeps_addNote (interval note : Nat) (s : State) : Keeps s (ownAddNote interval note s).1 := by
  refine .refused fun _ => ?_
  split
  · exact .refl s
  · split
    · exact .refl s
    next iv hiv =>
      refine .refused fun _ => ?_
      split
      · split
        · exact .of_view (view_setInterval hiv rfl)
        · exact .refl s
      · split
        · split
          · exact .of_view (view_modParcel fun _ _ _ => rfl)
          · exact .refl s
        · exact .refl s

/-! ### The job (R113, R114, R118, R132, R134) -/

theorem keeps_downtimeStart (kind : Nat) (s : State) : Keeps s (ownDowntimeStart kind s).1 := by
  unfold ownDowntimeStart
  split
  · exact .refl s
  · split
    · exact .refl s
    · exact .of_view rfl

theorem keeps_downtimeEnd (s : State) : Keeps s (ownDowntimeEnd s).1 := by
  unfold ownDowntimeEnd
  split
  · exact .refl s
  · exact .of_view rfl

theorem keeps_mixReport (litres : Nat) (entries : List (Nat × Nat)) (s : State) :
    Keeps s (ownMixReport litres entries s).1 :=
  .refused fun _ => .refused fun _ => .of_view rfl

theorem keeps_statement (s : State) : Keeps s (ownStatement s).1 := by
  unfold ownStatement
  split <;> exact .refl s

theorem keeps_jobOpen (job client start : Nat) (s : State) : Keeps s (ownJobOpen job client start s).1 := by
  unfold ownJobOpen
  split
  · exact .refl s
  · exact .refl s
  · exact .refused fun _ => .refused fun _ => .refused fun _ => .openJob s _

theorem keeps_jobClose (s : State) : Keeps s (ownJobClose s).1 := by
  unfold ownJobClose
  split
  · exact .refl s
  · exact .refl s
  next ho => exact .closeJob ho

/-! ### Lines and links (R166, R176, R181, R182) -/

theorem keeps_driveGeneralOutput (line level : Nat) (s : State) : Keeps s (ownDriveGeneralOutput line level s).1 := by
  unfold ownDriveGeneralOutput
  split
  · split
    · exact .accepted fun _ => .of_view (view_modFlu (lineSettings_putLine rfl rfl))
    · exact .refl s
  · exact .refl s

theorem keeps_linkReset (ln : Link) (s : State) : Keeps s (ownLinkReset ln s).1 := .of_view (view_dropRead s ln)

theorem keeps_setNoticeMasks (ln : Link) (conds : List Nat) (latch : Bool) (s : State) :
    Keeps s (ownSetNoticeMasks ln conds latch s).1 := by
  unfold ownSetNoticeMasks
  split
  · exact .of_view rfl
  · exact .refl s

theorem keeps_clearNotices (ln : Link) (conds : List Nat) (s : State) : Keeps s (ownClearNotices ln conds s).1 := by
  unfold ownClearNotices
  split
  · exact .of_view rfl
  · exact .refl s

/-! ### Images and reads (R6, R143, R152) -/

/-- A settings image saved is the live settings, in range by the balance's own premise (R143). -/
theorem preserves_saveSettings (s : State) : Preserves s (ownSaveSettings s).1 := by
  unfold ownSaveSettings
  split
  · exact (Keeps.refl s).preserves
  · have htaken := Keeps.takeHead (s.offer (.settings s.settings)).1
    refine ⟨fun h => htaken.meters ?_, fun h => htaken.lift ?_, fun h => ?_⟩
    · exact h
    · exact h
    · exact (Keeps.offerImage s (b := .settings s.settings) h.1.2.1).preserves.balance h

theorem keeps_read (s : State) {c : Prop} [Decidable c] (bytes : List Byte) :
    Keeps s (if c then tell bytes s else say .badValue s).1 := .accepted fun _ => .refl s

theorem keeps_readRod (rod : Nat) (s : State) : Keeps s (ownReadRod rod s).1 := by
  refine .accepted fun _ => ?_
  split <;> exact .refl s

theorem keeps_storeRead (s : State) {c : Prop} [Decidable c] (ln : Link) (tag : Nat) (req : ReadReq) :
    Keeps s (if c then takeRead ln tag req s else say .badValue s).1 := .accepted fun _ => .of_view (view_takeRead ln tag req s)

/-! ### Every request -/

theorem preserves_owner (i : Instr) (s : State) : Preserves s (owner i s).1 := by
  cases i with
  | saveSettings ln tag => exact preserves_saveSettings s
  | setRodClass ln tag cls defined thread cap torque => exact (keeps_setRodClass cls defined thread cap torque s).preserves
  | registerRod ln tag rod cls len => exact (keeps_registerRod rod cls len s).preserves
  | layDownRod ln tag rod => exact (keeps_layDownRod rod s).preserves
  | restoreRod ln tag rod => exact (keeps_restoreRod rod s).preserves
  | retireRod ln tag rod => exact (keeps_retireRod rod s).preserves
  | saveRods ln tag => exact (Keeps.offerImage s rfl).preserves
  | setBha ln tag len cap thread => exact (keeps_setBha len cap thread s).preserves
  | setDepthLimits ln tag cpm tol => exact (keeps_setDepthLimits cpm tol s).preserves
  | setBlockHeight ln tag height => exact (keeps_setBlockHeight height s).preserves
  | declareString ln tag len cap thread runs => exact (keeps_declareString len cap thread runs s).preserves
  | declareParted ln tag k => exact (keeps_declareParted k s).preserves
  | readStringList ln tag pos => exact (keeps_read s _).preserves
  | readRod ln tag rod => exact (keeps_readRod rod s).preserves
  | readRodTable ln tag start => exact (keeps_read s _).preserves
  | pick ln tag rod => exact (keeps_pick rod s).preserves
  | stab ln tag => exact (keeps_stab s).preserves
  | madeUp ln tag torque => exact (keeps_madeUp torque s).preserves
  | abortAdd ln tag => exact (keeps_abortAdd s).preserves
  | breakOut ln tag => exact (keeps_breakOut s).preserves
  | broken ln tag => exact (keeps_broken s).preserves
  | racked ln tag => exact (keeps_racked s).preserves
  | laidDown ln tag => exact (keeps_laidDown s).preserves
  | acknowledgeFault ln tag resolution => exact (keeps_acknowledgeFault resolution s).preserves
  | setPump ln tag pump disp eff timeout => exact (keeps_setPump pump disp eff timeout s).preserves
  | setCirculationLimits ln tag g f t w p => exact (keeps_setCirculationLimits g f t w p s).preserves
  | setHoleSections ln tag sections surface => exact (keeps_setHoleSections sections surface s).preserves
  | setSampleWindow ln tag volume level => exact (keeps_setSampleWindow volume level s).preserves
  | logSample ln tag interval code colour notes => exact (keeps_logSample interval code colour notes s).preserves
  | readCuttingsQueue ln tag pos => exact (keeps_read s _).preserves
  | setIntervalStep ln tag step => exact (keeps_setIntervalStep step s).preserves
  | setLithologyTable ln tag entries => exact (keeps_setLithologyTable entries s).preserves
  | reportWaterStrike ln tag depth => exact (keeps_reportWaterStrike depth s).preserves
  | addNote ln tag interval note => exact (keeps_addNote interval note s).preserves
  | readStrata ln tag index => exact (keeps_storeRead s ln tag _).preserves
  | readStrataLatest ln tag job => exact (keeps_storeRead s ln tag _).preserves
  | downtimeStart ln tag kind => exact (keeps_downtimeStart kind s).preserves
  | downtimeEnd ln tag => exact (keeps_downtimeEnd s).preserves
  | mixReport ln tag litres entries => exact (keeps_mixReport litres entries s).preserves
  | setTariffs ln tag table drillHold tripHold => exact (keeps_setTariffs table drillHold tripHold s).preserves
  | statement ln tag => exact (keeps_statement s).preserves
  | jobOpen ln tag job client start => exact (keeps_jobOpen job client start s).preserves
  | jobClose ln tag => exact (keeps_jobClose s).preserves
  | readJob ln tag index part => exact (keeps_storeRead s ln tag _).preserves
  | readSettingsImage ln tag part => exact (keeps_storeRead s ln tag _).preserves
  | readRodsImage ln tag start => exact (keeps_storeRead s ln tag _).preserves
  | setLineFunction ln tag line function polarity filter =>
    exact (keeps_setLineFunction line function polarity filter s).preserves
  | driveGeneralOutput ln tag line level => exact (keeps_driveGeneralOutput line level s).preserves
  | linkReset ln tag => exact (keeps_linkReset ln s).preserves
  | clearLock ln tag => exact (Keeps.of_view (view_modLink s ln fun l => { l with state := .active })).preserves
  | setNoticeMasks ln tag conds latch => exact (keeps_setNoticeMasks ln conds latch s).preserves
  | clearNotices ln tag conds => exact (keeps_clearNotices ln conds s).preserves
  | _ => exact (Keeps.refl s).preserves

/-! ### Frames (R170 to R175) -/

theorem preserves_takeRequest {own : State → State × Answer} (h : ∀ s, Preserves s (own s).1) (s : State) (ln : Link)
    (tag : Nat) (k : Kind) (lengthOk : Bool) : Preserves s (s.takeRequest ln tag k lengthOk own) := by
  have hown : Preserves s ((own s).1.answer ln k.number tag (own s).2) :=
    (h s).trans (Keeps.of_view (view_answer _ _ _ _ _)).preserves
  unfold State.takeRequest
  split
  · exact (Keeps.of_view (view_discardFrame _ _ _)).preserves
  · split
    · exact hown
    · split
      · exact (Keeps.of_view (view_sayOn _ _ _ _ _)).preserves
      · split
        · exact (Keeps.of_view (view_sayOn _ _ _ _ _)).preserves
        · split
          · exact (Keeps.of_view ((view_sayOn _ _ _ _ _).trans (view_modLink _ _ _))).preserves
          · split
            · exact (Keeps.of_view (view_sayOn _ _ _ _ _)).preserves
            · exact hown

theorem view_takeUnknown (s : State) (ln : Link) (tag kind : Nat) : view (s.takeUnknown ln tag kind) = view s := by
  unfold State.takeUnknown
  split
  · simp
  · split <;> simp

theorem preserves_takeFrame (s : State) (ln : Link) (kind tag : Nat) (body : List Byte) :
    Preserves s (s.takeFrame ln kind tag body) := by
  unfold State.takeFrame
  split
  · exact preserves_takeRequest (preserves_owner _) s ln tag _ _
  · exact (Keeps.of_view (view_takeUnknown s ln tag kind)).preserves

theorem preserves_collect (s : State) (ln : Link) (bytes : List Byte) : Preserves s (s.collect ln bytes) := by
  have hlink : ∀ f, Preserves s (s.modLink ln f) := fun f => (Keeps.of_view (view_modLink s ln f)).preserves
  have hdiscard : ∀ c, Preserves s (s.discardFrame ln c) := fun c => (Keeps.of_view (view_discardFrame s ln c)).preserves
  unfold State.collect
  split
  · split
    · exact hdiscard _
    · split
      · exact hlink _
      · split
        · exact hdiscard _
        · dsimp only
          split
          · exact (hlink _).trans (preserves_takeFrame _ ln _ _ _)
          · exact hlink _
  · exact (Keeps.refl s).preserves

theorem view_hunt (s : State) (ln : Link) (b : Byte) : view (s.hunt ln b) = view s := by
  unfold State.hunt
  split <;> rfl

theorem preserves_receive (s : State) (ln : Link) (b : Byte) : Preserves s (s.receive ln b) := by
  unfold State.receive
  split
  · exact (Keeps.of_view (view_hunt s ln b)).preserves
  · split
    · exact (Keeps.of_view ((view_hunt _ ln b).trans (view_discardFrame _ _ _))).preserves
    · exact preserves_collect s ln _

/-! ### Every command (R1 to R190) -/

/-- The command leads on, and keeps the invariants. -/
def Safe (s : State) (o : Host.Outcome State Fault Refusal) : Prop := ∃ t, o = .next t ∧ Preserves s t

theorem safe_whenOn {s : State} {f : State → State} (h : Preserves s (f s)) : Safe s (whenOn s f) := by
  refine ⟨_, rfl, ?_⟩
  split
  · exact h
  · exact (Keeps.refl s).preserves

theorem safe_whenReady {s : State} {f : State → State} (h : Preserves s (f s)) : Safe s (whenReady s f) := by
  refine ⟨_, rfl, ?_⟩
  split
  · exact h
  · exact (Keeps.refl s).preserves

/-- A request command hands its frame to its owner (R173). -/
theorem exec_request {i : Instr} {ln : Link} {tag : Nat} {k : Kind} {body : List Byte}
    (h : encodeRequest i = some (ln, tag, k, body)) (s : State) : exec i s = request ln tag k (owner i) s := by
  cases i <;> cases h <;> rfl

theorem safe_request {i : Instr} {ln : Link} {tag : Nat} {k : Kind} {body : List Byte}
    (h : encodeRequest i = some (ln, tag, k, body)) (s : State) : Safe s (exec i s) :=
  exec_request h s ▸ safe_whenReady (preserves_takeRequest (preserves_owner i) s ln tag k true)

theorem safe_exec (i : Instr) (s : State) : Safe s (exec i s) := by
  cases i with
  | coldStart straps torn decay => exact ⟨_, rfl, .cold s straps torn decay⟩
  | powerLoss torn => exact ⟨_, rfl, .dark s torn⟩
  | startupLoadComplete =>
    exact safe_whenOn (f := fun s => { s with loaded := true })
      (Keeps.of_view (s := s) (t := { s with loaded := true }) rfl).preserves
  | timeBaseTick => exact safe_whenOn (Keeps.timeTick s).preserves
  | pumpTimeout pump =>
    exact safe_whenOn (f := fun s => s.pumpStops pump) (Keeps.of_view (view_pumpStops s pump)).preserves
  | pinLevelChange line high after =>
    refine ⟨_, rfl, (Keeps.of_view ?_).preserves⟩
    split
    · exact (view_pinChange _ line high).trans (view_passTime s after)
    · exact view_modFlu (lineSettings_putLine rfl rfl)
  | inputFilterExpiry line =>
    exact safe_whenOn (f := fun s => s.filterExpiry line) (Keeps.filterExpiry s line).preserves
  | windowCompletion => exact safe_whenOn (Keeps.of_view (view_completeWindow s)).preserves
  | dueDetection =>
    refine safe_whenOn (s := s) (Keeps.preserves ?_)
    split
    · exact .dueDetection s
    · exact .refl s
  | windowExpiry =>
    refine safe_whenOn (s := s) (Keeps.preserves ?_)
    split
    · exact .windowExpiry s
    · exact .refl s
  | interByteTimeout ln =>
    simp only [exec, execInterByteTimeout]
    refine safe_whenReady (Keeps.of_view ?_).preserves
    split
    · rfl
    · exact (view_discardFrame _ ln _).trans (view_timeTo s _)
  | frameDiscard ln cause =>
    exact safe_whenReady (f := fun s => s.discardFrame ln cause) (Keeps.of_view (view_discardFrame s ln cause)).preserves
  | unknownKind ln tag kind =>
    exact safe_whenReady (f := fun s => s.takeFrame ln kind tag []) (preserves_takeFrame s ln kind tag [])
  | transmissionEnd ln =>
    exact safe_whenOn (f := fun s => s.modLink ln LinkRec.transmissionEnd) (Keeps.of_view (view_modLink s ln _)).preserves
  | eraseComplete after =>
    exact safe_whenOn (f := fun s => (s.passTime after).eraseEnds)
      (Keeps.of_view ((view_eraseEnds _).trans (view_passTime s after))).preserves
  | writeComplete verified after =>
    exact safe_whenOn (f := fun s => (s.passTime after).writeEnds verified)
      ((Keeps.of_view (view_passTime s after)).trans (.writeEnds _ verified)).preserves
  | byteArrival ln byte after =>
    simp only [exec, execByteArrival]
    refine safe_whenOn ((Keeps.of_view (view_passTime s after)).preserves.trans ?_)
    split
    · exact preserves_receive _ ln byte
    · exact (Keeps.refl _).preserves
  | _ => exact safe_request rfl s

theorem preserves_idle (s : State) : Preserves s s.idle := by
  unfold State.idle
  split
  · exact (Keeps.of_view (view_serveSuspended s)).preserves
  · exact (Keeps.refl s).preserves

theorem preserves_step {s t : State} (h : step s = .next t) : Preserves s t := by
  unfold step at h
  split at h
  · cases h
    exact preserves_idle s
  next i rest _ =>
    obtain ⟨u, hu, hkept⟩ := safe_exec i { s with pending := rest }
    rw [hu] at h
    cases h
    exact (Keeps.of_view (s := s) (t := { s with pending := rest }) rfl).preserves.trans hkept

/-- Settles O57: every command composes operations that keep the meters, the lift counter, the settings, the order of the
queue and the ledger of pending millimetres, each shown once. -/
theorem stepKeepsMetersAndLift : Obligations.StepKeepsMetersAndLift :=
  ⟨fun _ _ hs h => (preserves_step h).meters hs, fun _ _ hs h => (preserves_step h).lift hs,
    fun _ _ hs h => (preserves_step h).balance hs⟩

end Sys2Proof.CirculationProofs
end

section
/-! Records made final with one outcome of their offers: accepted while there is room, refused by a full queue, dropped by a
FAILED store (R89, R92, R142). -/

namespace Sys2Proof.CirculationProofs

open Sys2Proof Machine ConnectionProofs

/-! ### A controller that drops nothing at its head -/

/-- No head that the controller may take is kept back by the protect mark (R145). -/
def Quiet (u : Store) : Prop := u.ctl = .ready → ∀ e, u.startOf e ≠ .blocked

theorem Quiet.queue {u : Store} (h : Quiet u) (q : List Entry) : Quiet { u with queue := q } := h

/-- Work on a head that is not kept back writes or erases: the queue keeps its entries. -/
theorem work_of_unblocked {s : State} {e : Entry} (h : s.rst.startOf e ≠ .blocked) :
    ∃ ctl areas, s.work e = ({ s with rst := { s.rst with ctl, areas } }, false) ∧ ctl ≠ .ready ∧ ctl.isFailed = false := by
  unfold State.work
  split
  · exact ⟨.writing, s.rst.areas, rfl, nofun, rfl⟩
  next area block _ => exact ⟨.erasing _, s.rst.areas.eraseBlock area block, rfl, nofun, rfl⟩
  next hblocked => exact absurd hblocked h

/-- A controller at work, or FAILED, takes no head. -/
theorem takeHead_of_ne {s : State} (h : s.rst.ctl ≠ .ready) : s.takeHead = s := by
  unfold State.takeHead takeLoop
  split
  next hready _ => exact absurd hready h
  next => rfl

/-- The taking of a head that is not kept back leaves every entry in the queue (R144). -/
theorem takeHead_of_quiet {s : State} (h : Quiet s.rst) :
    ∃ ctl areas, s.takeHead = { s with rst := { s.rst with ctl, areas } } ∧ ctl.isFailed = s.rst.ctl.isFailed
      ∧ Quiet { s.rst with ctl, areas } := by
  by_cases hready : s.rst.ctl = .ready
  · cases hq : s.rst.queue with
    | nil =>
      refine ⟨s.rst.ctl, s.rst.areas, ?_, rfl, h⟩
      unfold State.takeHead takeLoop
      split
      next hcons => rw [hq] at hcons; cases hcons
      next => rfl
    | cons e es =>
      obtain ⟨ctl, areas, hwork, hne, hfailed⟩ := work_of_unblocked (h hready e)
      refine ⟨ctl, areas, ?_, ?_, fun hc => absurd hc hne⟩
      · unfold State.takeHead takeLoop
        simp [hready, hq, hwork]
      · rw [hfailed, hready]
        rfl
  · exact ⟨s.rst.ctl, s.rst.areas, takeHead_of_ne hready, rfl, h⟩

/-! ### A run of offers with one outcome -/

/-- The next `n` offers of strata records have outcome `o` (R142). -/
def Meets (o : Offer) (n : Nat) (u : Store) : Prop :=
  match o with
  | .accepted => u.ctl.isFailed = false ∧ u.queue.length + n ≤ 12
  | .full => u.ctl.isFailed = false ∧ 12 ≤ u.queue.length
  | .failed => u.ctl.isFailed = true

/-- The entries that records of these offers add to the queue. -/
def entries (o : Offer) (recs : List StrataRec) : List Entry :=
  match o with
  | .accepted => recs.map fun r => ⟨.strata r, 0⟩
  | .full | .failed => []

theorem entries_append (o : Offer) (l l' : List StrataRec) : entries o (l ++ l') = entries o l ++ entries o l' := by
  cases o <;> simp [entries]

theorem offer_of_meets {o : Offer} {n : Nat} {u : Store} (h : Meets o (n + 1) u) (r : StrataRec) :
    u.offer (.strata r) = ({ u with queue := u.queue ++ entries o [r] }, o)
      ∧ Meets o n { u with queue := u.queue ++ entries o [r] } := by
  cases o with
  | accepted =>
    obtain ⟨hf, hroom⟩ := h
    have hlt : u.queue.length < commitRoom := by
      unfold commitRoom
      omega
    refine ⟨by simp [Store.offer, hf, EntryBody.isImage, hlt, entries], hf, ?_⟩
    simp only [entries, List.length_append, List.map_cons, List.map_nil, List.length_cons, List.length_nil]
    omega
  | full =>
    obtain ⟨hf, hlen⟩ := h
    have hfull : ¬ u.queue.length < commitRoom := Nat.not_lt.mpr hlen
    refine ⟨by simp [Store.offer, hf, EntryBody.isImage, hfull, entries], hf, ?_⟩
    simpa [entries] using hlen
  | failed => exact ⟨by simp [offer_of_failed h, entries], h⟩

/-- The taking of a head leaves what the next offers meet. -/
theorem Meets.of_queue {o : Offer} {n : Nat} {u v : Store} (h : Meets o n u) (hfailed : v.ctl.isFailed = u.ctl.isFailed)
    (hqueue : v.queue = u.queue) : Meets o n v := by
  cases o <;> simpa [Meets, hfailed, hqueue] using h

/-- From `s` to `t` the records of a run of offers with outcome `o` were placed: the queue took `es`. -/
structure Run (o : Offer) (n : Nat) (es : List Entry) (s t : State) : Prop where
  queue : t.rst.queue = s.rst.queue ++ es
  meets : Meets o n t.rst
  quiet : Quiet t.rst

theorem Run.trans {o : Offer} {m n : Nat} {l l' : List Entry} {s t u : State} (h : Run o m l s t)
    (h' : Run o n l' t u) : Run o n (l ++ l') s u :=
  ⟨by rw [h'.queue, h.queue, List.append_assoc], h'.meets, h'.quiet⟩

section
variable {o : Offer} {n : Nat} {s : State}

/-- One record of a parcel, placed by outcome `o`. -/
theorem run_finishParcel (hm : Meets o (n + 1) s.rst) (hq : Quiet s.rst) (r : StrataRec) :
    Run o n (entries o [r]) s (s.finishParcel r)
      ∧ (s.finishParcel r).lgu.parcels = placedParcels o r s.lgu.parcels
      ∧ (s.finishParcel r).slu.overflow = s.slu.overflow := by
  obtain ⟨hoffer, hnext⟩ := offer_of_meets hm r
  obtain ⟨cls, near, links, hplaced⟩ := placedParcel_eq s r
  rw [hoffer] at hplaced
  have hquiet : Quiet (placedParcel s r).rst := by
    rw [hplaced]
    exact hq.queue _
  obtain ⟨ctl, areas, htake, hfailed, hquiet'⟩ := takeHead_of_quiet hquiet
  rw [finishParcel_eq, htake]
  rw [hplaced] at hfailed hquiet' ⊢
  exact ⟨⟨rfl, hnext.of_queue hfailed rfl, hquiet'⟩, rfl, rfl⟩

/-- One record without a parcel, placed by outcome `o`. -/
theorem run_finishLoose (hm : Meets o (n + 1) s.rst) (hq : Quiet s.rst) (r : StrataRec) :
    Run o n (entries o [r]) s (s.finishLoose r)
      ∧ (s.finishLoose r).lgu.parcels = s.lgu.parcels
      ∧ (s.finishLoose r).slu.overflow = placedOverflow o r s.slu.overflow := by
  obtain ⟨hoffer, hnext⟩ := offer_of_meets hm r
  obtain ⟨cls, links, hplaced⟩ := placedLoose_eq s r
  rw [hoffer] at hplaced
  have hquiet : Quiet (placedLoose s r).rst := by
    rw [hplaced]
    exact hq.queue _
  obtain ⟨ctl, areas, htake, hfailed, hquiet'⟩ := takeHead_of_quiet hquiet
  rw [finishLoose_eq, htake]
  rw [hplaced] at hfailed hquiet' ⊢
  exact ⟨⟨rfl, hnext.of_queue hfailed rfl, hquiet'⟩, rfl, rfl⟩

end

/-- The records of parcels, placed in turn by outcome `o`. -/
theorem run_foldl {o : Offer} (recs : List StrataRec) : ∀ {s : State}, Meets o recs.length s.rst → Quiet s.rst →
    Run o 0 (entries o recs) s (recs.foldl State.finishParcel s)
      ∧ (recs.foldl State.finishParcel s).lgu.parcels = recs.foldl (fun l r => placedParcels o r l) s.lgu.parcels
      ∧ (recs.foldl State.finishParcel s).slu.overflow = s.slu.overflow := by
  induction recs with
  | nil => exact fun hm hq => ⟨⟨by cases o <;> simp [entries], hm, hq⟩, rfl, rfl⟩
  | cons r recs ih =>
    intro s hm hq
    obtain ⟨hrun, hparcels, hoverflow⟩ := run_finishParcel hm hq r
    obtain ⟨hruns, hall, hover⟩ := ih hrun.meets hrun.quiet
    refine ⟨?_, ?_, ?_⟩
    · exact entries_append o [r] recs ▸ hrun.trans hruns
    · rw [List.foldl_cons, List.foldl_cons, hall, hparcels]
    · rw [List.foldl_cons, hover, hoverflow]

/-! ### The parcels of such a run -/

theorem foldl_placed_accepted {o : Offer} (ho : o ≠ .full) (recs : List StrataRec) : ∀ l : List Parcel,
    recs.foldl (fun l r => placedParcels o r l) l = l.filter fun p => recs.all fun r => p.record.interval != r.interval := by
  induction recs with
  | nil => intro l; simp
  | cons r recs ih =>
    intro l
    have hone : placedParcels o r l = l.filter (·.record.interval != r.interval) := by cases o <;> simp_all [placedParcels]
    rw [List.foldl_cons, ih, hone, List.filter_filter]
    refine List.filter_congr fun p _ => ?_
    rw [List.all_cons, Bool.and_comm]

/-- What a refused record does to one parcel of the queue (R89). -/
def waitWith (p : Parcel) (r : StrataRec) : Parcel :=
  if p.record.interval = r.interval then { p with record := r, status := .finalWaiting } else p

theorem foldl_placed_full (recs : List StrataRec) : ∀ l : List Parcel,
    recs.foldl (fun l r => placedParcels .full r l) l = l.map fun p => recs.foldl waitWith p := by
  induction recs with
  | nil => intro l; simp
  | cons r recs ih =>
    intro l
    rw [List.foldl_cons, ih, placedParcels, List.map_map]
    rfl

theorem foldl_waitWith_of_ne (recs : List StrataRec) : ∀ {p : Parcel}, (∀ r ∈ recs, p.record.interval ≠ r.interval) →
    recs.foldl waitWith p = p := by
  induction recs with
  | nil => exact fun _ => rfl
  | cons r recs ih =>
    intro p h
    have hone : waitWith p r = p := if_neg (h r List.mem_cons_self)
    rw [List.foldl_cons, hone]
    exact ih fun r' hr' => h r' (List.mem_cons_of_mem _ hr')

/-- A parcel with one record of its interval among those refused waits with that record. -/
theorem foldl_waitWith_of_mem {recs : List StrataRec} : ∀ {p : Parcel} {r : StrataRec}, (recs.map (·.interval)).Nodup →
    r ∈ recs → p.record.interval = r.interval →
    recs.foldl waitWith p = { p with record := r, status := .finalWaiting } := by
  induction recs with
  | nil => exact fun _ h => nomatch h
  | cons r' recs ih =>
    intro p r hnodup hmem hn
    simp only [List.map_cons, List.nodup_cons, List.mem_map, not_exists, not_and] at hnodup
    obtain ⟨hfirst, hrest⟩ := hnodup
    rw [List.foldl_cons]
    rcases List.mem_cons.mp hmem with rfl | hmem
    · have hone : waitWith p r = { p with record := r, status := .finalWaiting } := if_pos hn
      rw [hone]
      exact foldl_waitWith_of_ne recs fun x hx => Ne.symm (hfirst x hx)
    · have hone : waitWith p r' = p := if_neg fun h => hfirst r hmem (hn.symm.trans h)
      rw [hone]
      exact ih hrest hmem hn

/-- The final records of the parcels under construction (R92). -/
def unsampledAll (l : List Parcel) : List StrataRec :=
  (l.filter fun p => p.status != .finalWaiting).map fun p => p.record.unsampled .unsampledAtClose

section
variable {l : List Parcel} (hnodup : (l.map (·.record.interval)).Nodup)
include hnodup

theorem nodup_unsampledAll : ((unsampledAll l).map (·.interval)).Nodup := by
  rw [unsampledAll, List.map_map]
  exact hnodup.sublist (List.filter_sublist.map _)

/-- With distinct intervals a final parcel's interval is none of theirs. -/
theorem mem_unsampledAll_interval {p : Parcel} (hp : p ∈ l) :
    (∃ r ∈ unsampledAll l, p.record.interval = r.interval) ↔ p.status ≠ .finalWaiting := by
  constructor
  · rintro ⟨r, hr, hn⟩
    obtain ⟨q, hq, rfl⟩ := List.mem_map.mp hr
    obtain ⟨hmem, hstatus⟩ := List.mem_filter.mp hq
    rw [List.inj_on_of_nodup_map hnodup hp hmem hn]
    simpa using hstatus
  · intro hstatus
    exact ⟨_, List.mem_map_of_mem (List.mem_filter.mpr ⟨hp, by simpa using hstatus⟩), rfl⟩

/-- With room the parcels under construction all leave, and the others stay. -/
theorem parcels_accepted :
    (unsampledAll l).foldl (fun l r => placedParcels .accepted r l) l = l.filter fun p => p.status == .finalWaiting := by
  rw [foldl_placed_accepted (o := .accepted) (by decide)]
  refine List.filter_congr fun p hp => ?_
  have hiff := mem_unsampledAll_interval hnodup hp
  rw [Bool.eq_iff_iff, List.all_eq_true, beq_iff_eq]
  rw [← not_iff_not, ← ne_eq, ← hiff]
  simp

/-- In a full queue they all wait with their final records. -/
theorem parcels_full :
    (unsampledAll l).foldl (fun l r => placedParcels .full r l) l =
      l.map fun p =>
        if p.status = .finalWaiting then p
        else { p with status := .finalWaiting, record := p.record.unsampled .unsampledAtClose } := by
  rw [foldl_placed_full]
  refine List.map_congr_left fun p hp => ?_
  split
  next hstatus =>
    refine foldl_waitWith_of_ne _ fun r hr hn => ?_
    exact (mem_unsampledAll_interval hnodup hp).mp ⟨r, hr, hn⟩ hstatus
  next hstatus =>
    exact foldl_waitWith_of_mem (nodup_unsampledAll hnodup)
      (List.mem_map_of_mem (List.mem_filter.mpr ⟨hp, by simpa using hstatus⟩)) rfl

end

end Sys2Proof.CirculationProofs
end

section
/-! Job Close (R134, R135): what each step leaves, and the three outcomes of its offers. -/

namespace Sys2Proof.CirculationProofs

open Sys2Proof Machine ConnectionProofs

/-! ### The final records (R92, R107) -/

theorem map_unfinished (s : State) :
    (s.unfinished.map fun r => r.unsampled .unsampledAtClose) = unsampledAll s.lgu.parcels := by
  simp [State.unfinished, unsampledAll]

/-- With distinct intervals the partial interval's record leaves the parcels under construction. -/
theorem closingRecs_eq {s : State} (hq : QueueOk s) : closingRecs s = partialRecs s ++ unsampledAll s.lgu.parcels := by
  have hunfinal : unfinal s.closePartial.lgu = unfinal s.lgu := by
    rcases closePartial_cases s with ⟨-, hclose⟩ | ⟨r, iv, -, -, -, hclose⟩
    · rw [hclose]
      rfl
    · rw [hclose]
      exact unfinal_finishLoose (s := withoutInterval s) (show (intervals s.lgu).Nodup from intervals_nodup hq) r
  rw [closingRecs, map_unfinished]
  exact congrArg (fun l => partialRecs s ++ l.map fun p => p.record.unsampled .unsampledAtClose) hunfinal

theorem classifiedAll_pending (recs : List StrataRec) : ∀ u : JobUnit,
    (classifiedAll u recs).pendingMm = u.pendingMm - (recs.map span).sum := by
  induction recs with
  | nil => exact fun u => rfl
  | cons r recs ih =>
    intro u
    have hone : (classified u r).pendingMm = u.pendingMm - span r := rfl
    rw [classifiedAll, List.foldl_cons, ← classifiedAll, ih, hone, List.map_cons, List.sum_cons, Nat.sub_sub]

/-- Records that are not CAUGHT are credited as UNKNOWN (R116). -/
theorem classifiedAll_cells {recs : List StrataRec} : ∀ {u : JobUnit}, (∀ r ∈ recs, r.billedRock = .unknown) →
    (classifiedAll u recs).cells =
      recs.foldl (fun c r => creditCells u.tariff.bounds r.top r.bottom .unknown c) u.cells := by
  induction recs with
  | nil => exact fun _ => rfl
  | cons r recs ih =>
    intro u h
    obtain ⟨hr, hrest⟩ := List.forall_mem_cons.mp h
    rw [classifiedAll, List.foldl_cons, ← classifiedAll, ih hrest, List.foldl_cons, ← hr]
    rfl

theorem billedRock_unsampled (r : StrataRec) : (r.unsampled .unsampledAtClose).billedRock = .unknown := if_neg nofun

theorem billedRock_closing {s : State} : ∀ r ∈ partialRecs s ++ unsampledAll s.lgu.parcels, r.billedRock = .unknown := by
  intro r hr
  rcases List.mem_append.mp hr with hr | hr
  · unfold partialRecs at hr
    split at hr
    · split at hr
      · cases hr
      · rw [List.mem_singleton.mp hr]
        exact billedRock_unsampled _
    · cases hr
  · obtain ⟨p, -, rfl⟩ := List.mem_map.mp hr
    exact billedRock_unsampled _

/-! ### The units after Job Close -/

/-- The state in which the final statement is composed (R134). -/
def composing (s : State) : State :=
  (s.modCcu fun u => { u with close := some s.ccu.figures }).modJmu fun u => { u with downtime := none }

/-- The final statement of Job Close (R134). -/
def closingStatement (s : State) : Statement := (composing s.closeRecords).compose false

/-- The job record of Job Close (R135). -/
def closingRecord (s : State) : JobRecord :=
  (composing s.closeRecords).jobRecord (closingStatement s) s.closeRecords.ccu.figures

theorem rst_closeFigures (s : State) : (closeFigures s).rst = s.rst := rfl

theorem slu_closeFigures (s : State) : (closeFigures s).slu = s.slu := rfl

theorem lgu_closeFigures (s : State) : (closeFigures s).lgu = s.lgu := rfl

theorem closeFigures_eq (s : State) :
    closeFigures s.closeRecords =
      { s.closeRecords with
        ccu := { s.closeRecords.ccu with close := some s.closeRecords.ccu.figures }
        jmu := { s.closeRecords.jmu with
          downtime := none, finalStmt := some (closingStatement s), record := some (closingRecord s)
          state := .closing .held } } := rfl

theorem rig_closeRecords (s : State) : rig s.closeRecords = rig s := (finals_closeRecords s).rig

theorem ccu_closeRecords (s : State) : s.closeRecords.ccu = s.ccu := congrArg Rig.ccu (rig_closeRecords s)

/-- The Job Meter Unit when the records are final: pending and cells alone have moved (R116, R134). -/
theorem jmu_closeRecords {s : State} (ho : s.jmu.state = .opened) :
    s.closeRecords.jmu =
      { s.jmu with pendingMm := s.closeRecords.jmu.pendingMm, cells := s.closeRecords.jmu.cells } := by
  have hfin := finals_closeRecords s
  have hstate : s.closeRecords.jmu.state = .opened := (ho ▸ hfin.moves : JobMoves .opened _).of_opened
  have hjmu := hfin.jmu
  rw [classifiedAll_eq, hstate] at hjmu
  rw [hjmu, ← ho]
  rfl

/-- The rig after Job Close: the figures are copied (R58). -/
theorem rig_closeJob (s : State) :
    rig s.closeJob = { rig s with ccu := { s.ccu with close := some s.ccu.figures } } := by
  have hccu := ccu_closeRecords s
  have hrig := rig_closeRecords s
  rw [(departs_closeJob s).rig, closeFigures_eq, ← hccu, ← hrig]
  rfl

/-- The Job Meter Unit holds the record; only its state moves in the release check (R134, R136). -/
theorem jmu_held (s : State) :
    s.closeJob.jmu =
      { s.closeRecords.jmu with
        state := s.closeJob.jmu.state, downtime := none, finalStmt := some (closingStatement s)
        record := some (closingRecord s) } := (departs_closeJob s).jmu

theorem pending_closeJob (s : State) : s.closeJob.jmu.pendingMm = s.closeRecords.jmu.pendingMm := by rw [jmu_held]

theorem cells_closeJob (s : State) : s.closeJob.jmu.cells = s.closeRecords.jmu.cells := by rw [jmu_held]

theorem jmu_closeJob {s : State} (ho : s.jmu.state = .opened) :
    s.closeJob.jmu =
      { s.jmu with
        state := s.closeJob.jmu.state, downtime := none, finalStmt := some (closingStatement s)
        record := some (closingRecord s), pendingMm := s.closeJob.jmu.pendingMm, cells := s.closeJob.jmu.cells } := by
  conv_lhs => rw [jmu_held, jmu_closeRecords ho]
  rw [pending_closeJob, cells_closeJob]

/-- After Job Close the job is CLOSING, or has ended. -/
theorem moves_closeJob (s : State) : JobMoves (.closing .held) s.closeJob.jmu.state := (departs_closeJob s).moves

theorem not_opened_closeJob (s : State) : s.closeJob.jmu.state ≠ .opened := fun h =>
  nomatch (moves_closeJob s).opened h

theorem not_isFailed_iff {c : Ctl} : c.isFailed = false ↔ c ≠ .failed := by cases c <;> simp [Ctl.isFailed]

/-- A job ends at its close only in a FAILED store (R136). -/
theorem closing_closeJob {s : State} (hf : s.rst.ctl ≠ .failed) : ∃ ph, s.closeJob.jmu.state = .closing ph := by
  have hdep := departs_closeJob s
  have hfailed : (closeFigures s.closeRecords).rst.ctl.isFailed = false := by
    rw [rst_closeFigures, (finals_closeRecords s).failed]
    exact not_isFailed_iff.mpr hf
  rcases hdep.moves with hsame | ⟨-, hoffered | hended⟩
  · exact ⟨.held, hsame⟩
  · exact ⟨.offered, hoffered⟩
  · exact nomatch hdep.ends hfailed hended

theorem slu_closeJob (s : State) :
    s.closeJob.slu.openIv = none ∧ s.closeJob.slu.closed = closedAtClose s := by
  rw [(departs_closeJob s).slu, slu_closeFigures, (finals_closeRecords s).slu]
  exact ⟨rfl, rfl⟩

theorem finalWaiting_closeJob (s : State) : ∀ p ∈ s.closeJob.lgu.parcels, p.status = .finalWaiting := by
  have hparcels := (departs_closeJob s).parcels
  rw [lgu_closeFigures] at hparcels
  exact fun p hp => finalWaiting_closeRecords s p (hparcels.subset hp)

/-- Pending and cells after Job Close (R92, R107, R116). -/
theorem figures_closeJob {s : State} (hq : QueueOk s) :
    s.closeJob.jmu.pendingMm = s.jmu.pendingMm - ((partialRecs s ++ unsampledAll s.lgu.parcels).map span).sum
      ∧ s.closeJob.jmu.cells = (partialRecs s ++ unsampledAll s.lgu.parcels).foldl
          (fun c r => creditCells s.jmu.tariff.bounds r.top r.bottom .unknown c) s.jmu.cells := by
  have hjmu := (finals_closeRecords s).jmu
  have hstart : (withoutInterval s).jmu = s.jmu := rfl
  rw [closingRecs_eq hq, hstart] at hjmu
  rw [pending_closeJob, cells_closeJob, hjmu]
  exact ⟨classifiedAll_pending _ _, classifiedAll_cells billedRock_closing⟩

/-- In balance nothing is pending after Job Close (R116). -/
theorem pending_zero_closeJob {s : State} (ho : s.jmu.state = .opened) (h : BalanceOk s) : s.closeJob.jmu.pendingMm = 0 := by
  obtain ⟨hs, hq, hb⟩ := (balanceOk_iff s).mp h
  have hpending := (ledger_closeRecords ho ((settingsOk_iff s).mp hs).2 hq hb).pending
  have hnone : unfinal s.closeRecords.lgu = [] :=
    List.filter_eq_nil_iff.mpr fun p hp => by simp [finalWaiting_closeRecords s p hp]
  rw [pending_closeJob, hpending, risingMm_eq, hnone]
  rfl

/-- A final statement rests on the quantities of the Job Meter Unit, the hole depth and the lost volume, not on the state
of the job or on what it holds of the last close (R127). -/
theorem compose_congr {s t : State} {state : JobState} {stmt : Option Statement} {record : Option JobRecord}
    (hjmu : t.jmu = { s.jmu with state, finalStmt := stmt, record }) (hhole : t.str.hole = s.str.hole)
    (hlost : t.lostVolume = s.lostVolume) : t.compose false = s.compose false := by
  have hlines : t.lines = s.lines := by
    unfold State.lines
    rw [hlost, hjmu]
  unfold State.compose
  rw [hlines, hjmu, hhole]

theorem str_closeJob (s : State) : s.closeJob.str = s.str := congrArg Rig.str (rig_closeJob s)

theorem ccu_closeJob (s : State) : s.closeJob.ccu = { s.ccu with close := some s.ccu.figures } :=
  congrArg Rig.ccu (rig_closeJob s)

/-- The lost volume reported after the close is the copied one (R58, R119). -/
theorem lostVolume_closeJob (s : State) : s.closeJob.lostVolume = s.ccu.lost := by
  unfold State.lostVolume
  split
  next ho => exact absurd ho (not_opened_closeJob s)
  next => rw [ccu_closeJob]; rfl

theorem lostVolume_composing {s : State} (ho : s.jmu.state = .opened) : (composing s).lostVolume = s.ccu.lost := by
  have hstate : (composing s).jmu.state = .opened := ho
  unfold State.lostVolume
  rw [hstate]
  rfl

/-- The final statement is what would be composed after the close (R135). -/
theorem closingStatement_eq {s : State} (ho : s.jmu.state = .opened) : closingStatement s = s.closeJob.compose false := by
  have hopened : s.closeRecords.jmu.state = .opened := by rw [jmu_closeRecords ho, ho]
  have hstr : s.closeRecords.str = s.str := congrArg Rig.str (rig_closeRecords s)
  refine (compose_congr (jmu_held s) ?_ ?_).symm
  · rw [str_closeJob]
    exact congrArg StringUnit.hole hstr.symm
  · rw [lostVolume_closeJob, lostVolume_composing hopened, ccu_closeRecords]

end Sys2Proof.CirculationProofs
end

section
/-! Job Close with room in the commit queue, with a full one, and in a FAILED store (R89, R134, R136). -/

namespace Sys2Proof.CirculationProofs

open Sys2Proof Machine ConnectionProofs

/-! ### The offers of Job Close -/

section
variable {o : Offer} {s : State}

theorem run_closePartial {n : Nat} (hm : Meets o ((partialRecs s).length + n) s.rst) (hq : Quiet s.rst) :
    Run o n (entries o (partialRecs s)) s s.closePartial ∧ s.closePartial.lgu.parcels = s.lgu.parcels
      ∧ s.closePartial.slu.overflow = (partialRecs s).foldl (fun l r => placedOverflow o r l) s.slu.overflow := by
  rcases closePartial_cases s with ⟨hnil, hclose⟩ | ⟨r, iv, hrec, -, -, hclose⟩
  · rw [hnil, List.length_nil, Nat.zero_add] at hm
    rw [hnil, hclose]
    exact ⟨⟨by cases o <;> simp [entries, withoutInterval], hm, hq⟩, rfl, rfl⟩
  · rw [hrec, List.length_singleton, Nat.add_comm] at hm
    obtain ⟨hrun, hparcels, hoverflow⟩ := run_finishLoose (s := withoutInterval s) hm hq r
    rw [hrec, hclose]
    exact ⟨⟨hrun.queue, hrun.meets, hrun.quiet⟩, hparcels, hoverflow⟩

theorem run_closeRecords (hm : Meets o (partialRecs s ++ unsampledAll s.lgu.parcels).length s.rst) (hq : Quiet s.rst) :
    Run o 0 (entries o (partialRecs s ++ unsampledAll s.lgu.parcels)) s s.closeRecords
      ∧ s.closeRecords.lgu.parcels = (unsampledAll s.lgu.parcels).foldl (fun l r => placedParcels o r l) s.lgu.parcels
      ∧ s.closeRecords.slu.overflow = (partialRecs s).foldl (fun l r => placedOverflow o r l) s.slu.overflow := by
  rw [List.length_append] at hm
  obtain ⟨hfirst, hparcels, hoverflow⟩ := run_closePartial hm hq
  have hrest := run_foldl (unsampledAll s.lgu.parcels) hfirst.meets hfirst.quiet
  rw [closeRecords_eq, map_unfinished, hparcels, entries_append]
  obtain ⟨hrun, hall, hover⟩ := hrest
  exact ⟨hfirst.trans hrun, by rw [hall, hparcels], by rw [hover, hoverflow]⟩

end

/-! ### The release check on the held record (R136) -/

/-- A controller that has not FAILED lets the held record wait, or accepts it while there is room. -/
theorem release_cases {s : State} {r : JobRecord} (hstate : s.jmu.state = .closing .held) (hrec : s.jmu.record = some r)
    (hf : s.rst.ctl.isFailed = false) :
    s.releaseCheck = s ∨ (s.rst.queue.length < 12
      ∧ s.releaseCheck =
        { s with
          jmu := { s.jmu with state := .closing .offered }
          rst := { s.rst with queue := s.rst.queue ++ [⟨.job r, 0⟩] } }) := by
  unfold State.releaseCheck
  rw [hstate, hrec]
  dsimp only
  split
  · exact .inl rfl
  · by_cases hroom : s.rst.queue.length < commitRoom
    · right
      simp only [State.offer, Store.offer, hf, EntryBody.isImage, hroom, if_true]
      exact ⟨hroom, rfl⟩
    · left
      simp only [State.offer, Store.offer, hf, EntryBody.isImage, hroom, if_false]
      rfl

/-- The release check and the head taken after it, when no head is kept back: the held record joins the queue, or not. -/
theorem queue_release {s : State} {r : JobRecord} (hstate : s.jmu.state = .closing .held) (hrec : s.jmu.record = some r)
    (hf : s.rst.ctl.isFailed = false) (hq : Quiet s.rst) :
    s.releaseCheck.takeHead.lgu = s.lgu ∧ s.releaseCheck.takeHead.slu = s.slu
      ∧ ((s.releaseCheck.takeHead.jmu.state ≠ .closing .offered ∧ s.releaseCheck.takeHead.rst.queue = s.rst.queue)
        ∨ (s.releaseCheck.takeHead.jmu.state = .closing .offered ∧ s.rst.queue.length < 12
          ∧ s.releaseCheck.takeHead.rst.queue = s.rst.queue ++ [⟨.job r, 0⟩])) := by
  rcases release_cases hstate hrec hf with hkept | ⟨hroom, hoffered⟩
  · obtain ⟨ctl, areas, htake, -⟩ := takeHead_of_quiet hq
    rw [hkept, htake]
    refine ⟨rfl, rfl, .inl ⟨?_, rfl⟩⟩
    rw [hstate]
    nofun
  · rw [hoffered]
    obtain ⟨ctl, areas, htake, -⟩ := takeHead_of_quiet (s := { s with
      jmu := { s.jmu with state := .closing .offered }
      rst := { s.rst with queue := s.rst.queue ++ [⟨.job r, 0⟩] } }) (hq.queue _)
    rw [htake]
    exact ⟨rfl, rfl, .inr ⟨rfl, hroom, rfl⟩⟩

/-- In a FAILED store with nothing left of the job its record is dropped, and the job ends. -/
theorem release_failed {s : State} {r : JobRecord} (hstate : s.jmu.state = .closing .held) (hrec : s.jmu.record = some r)
    (hf : s.rst.ctl.isFailed = true) (hparcels : s.lgu.parcels = []) (hoverflow : s.slu.overflow = [])
    (hqueue : s.rst.queue = []) :
    s.releaseCheck.takeHead.jmu.state = .noJob ∧ s.releaseCheck.takeHead.rst.protect = none := by
  have hwaits : s.strataWaits r.ident.number = false := by simp [State.strataWaits, hparcels, hoverflow, hqueue]
  have hend : s.releaseCheck = (s.fire .commitDropped (.droppedJob r.ident.number)).endJob := by
    unfold State.releaseCheck
    rw [hstate, hrec]
    simp only [hwaits, State.offer, offer_of_failed hf]
    rfl
  have hctl : (s.fire .commitDropped (.droppedJob r.ident.number)).endJob.rst.ctl ≠ .ready := fun h => by
    have hready : s.rst.ctl = .ready := h
    rw [hready] at hf
    cases hf
  rw [hend, takeHead_of_ne hctl]
  exact ⟨rfl, rfl⟩

/-! ### The three outcomes -/

theorem record_closeFigures (s : State) : (closeFigures s.closeRecords).jmu.record = some (closingRecord s) := rfl

theorem state_closeFigures (s : State) : (closeFigures s).jmu.state = .closing .held := rfl

section
variable {s : State}

/-- What the last steps of Job Close do when no head is kept back: the job record joins the queue, or not. -/
theorem queue_closeJob (hf : s.rst.ctl ≠ .failed) (hq : Quiet s.closeRecords.rst) :
    s.closeJob.lgu = s.closeRecords.lgu ∧ s.closeJob.slu = s.closeRecords.slu
      ∧ ((s.closeJob.jmu.state ≠ .closing .offered ∧ s.closeJob.rst.queue = s.closeRecords.rst.queue)
        ∨ (s.closeJob.jmu.state = .closing .offered ∧ s.closeRecords.rst.queue.length < 12
          ∧ s.closeJob.rst.queue = s.closeRecords.rst.queue ++ [⟨.job (closingRecord s), 0⟩])) := by
  have hfailed : s.closeRecords.rst.ctl.isFailed = false := by
    rw [(finals_closeRecords s).failed]
    exact not_isFailed_iff.mpr hf
  rw [← rst_closeFigures] at hfailed hq
  have h := queue_release (state_closeFigures s.closeRecords) (record_closeFigures s) hfailed hq
  rwa [rst_closeFigures, slu_closeFigures, lgu_closeFigures, ← closeJob_eq] at h

/-- With room in the commit queue every record is accepted (R89, R142). -/
theorem closeJob_room (hq : QueueOk s) (hf : s.rst.ctl ≠ .failed) (hblocked : ∀ e, s.rst.startOf e ≠ .blocked)
    (hroom : s.rst.queue.length + (partialRecs s ++ unsampledAll s.lgu.parcels).length ≤ 12) :
    s.closeJob.rst.queue =
        s.rst.queue ++ (partialRecs s ++ unsampledAll s.lgu.parcels).map (fun r => ⟨.strata r, 0⟩)
          ++ (if s.closeJob.jmu.state = .closing .offered then [⟨.job (closingRecord s), 0⟩] else [])
      ∧ s.closeJob.lgu.parcels = s.lgu.parcels.filter (fun p => p.status == .finalWaiting)
      ∧ s.closeJob.slu.overflow = s.slu.overflow := by
  obtain ⟨hrun, hparcels, hoverflow⟩ :=
    run_closeRecords (o := .accepted) ⟨not_isFailed_iff.mpr hf, hroom⟩ fun _ => hblocked
  obtain ⟨hlgu, hslu, hqueue⟩ := queue_closeJob hf hrun.quiet
  have hkeep : ∀ l : List StrataRec, l.foldl (fun l r => placedOverflow .accepted r l) s.slu.overflow = s.slu.overflow := by
    intro l
    induction l with
    | nil => rfl
    | cons r l ih => exact ih
  refine ⟨?_, ?_, ?_⟩
  · rcases hqueue with ⟨hstate, hq'⟩ | ⟨hstate, -, hq'⟩
    · rw [if_neg hstate, hq', hrun.queue, List.append_nil]
      rfl
    · rw [if_pos hstate, hq', hrun.queue]
      rfl
  · rw [hlgu, hparcels]
    exact parcels_accepted (intervals_nodup hq)
  · rw [hslu, hoverflow, hkeep]

theorem partialRecs_cases (s : State) : partialRecs s = [] ∨ ∃ r, partialRecs s = [r] := by
  rcases closePartial_cases s with ⟨hnil, -⟩ | ⟨r, iv, hrec, -⟩
  · exact .inl hnil
  · exact .inr ⟨r, hrec⟩

/-- With a full commit queue every record waits (R89, R91). -/
theorem closeJob_full (hq : QueueOk s) (hf : s.rst.ctl ≠ .failed) (hready : s.rst.ctl ≠ .ready)
    (hfull : 12 ≤ s.rst.queue.length) :
    s.closeJob.rst.queue = s.rst.queue
      ∧ s.closeJob.lgu.parcels = s.lgu.parcels.map (fun p =>
          if p.status = .finalWaiting then p
          else { p with status := .finalWaiting, record := p.record.unsampled .unsampledAtClose })
      ∧ s.closeJob.slu.overflow =
          if s.slu.overflow.length < 4 then s.slu.overflow ++ partialRecs s else s.slu.overflow := by
  obtain ⟨hrun, hparcels, hoverflow⟩ :=
    run_closeRecords (o := .full) ⟨not_isFailed_iff.mpr hf, hfull⟩ fun h => absurd h hready
  obtain ⟨hlgu, hslu, hqueue⟩ := queue_closeJob hf hrun.quiet
  have hsame : s.closeRecords.rst.queue = s.rst.queue := hrun.queue.trans (List.append_nil _)
  refine ⟨?_, ?_, ?_⟩
  · rw [hsame] at hqueue
    rcases hqueue with ⟨-, hq'⟩ | ⟨-, hlt, -⟩
    · exact hq'
    · omega
  · rw [hlgu, hparcels]
    exact parcels_full (intervals_nodup hq)
  · rw [hslu, hoverflow]
    rcases partialRecs_cases s with hnil | ⟨r, hr⟩
    · rw [hnil, List.append_nil, ite_self]
      rfl
    · rw [hr]
      rfl

/-- In a FAILED store that holds nothing else of the job the job ends at once (R136, R148). -/
theorem closeJob_failed (hf : s.rst.ctl = .failed) (hqueue : s.rst.queue = []) (hoverflow : s.slu.overflow = [])
    (hbuilding : ∀ p ∈ s.lgu.parcels, p.status ≠ .finalWaiting) :
    s.closeJob.jmu.state = .noJob ∧ s.closeJob.rst.protect = none := by
  have hfailed : s.rst.ctl.isFailed = true := by rw [hf]; rfl
  obtain ⟨hrun, hparcels, hover⟩ := run_closeRecords (o := .failed) hfailed fun h => absurd (hf.symm.trans h) nofun
  have hnone : s.closeRecords.lgu.parcels = [] := by
    refine List.eq_nil_iff_forall_not_mem.mpr fun p hp => ?_
    have hwaits := finalWaiting_closeRecords s p hp
    rw [hparcels, foldl_placed_accepted (o := .failed) (by decide)] at hp
    exact hbuilding p (List.mem_of_mem_filter hp) hwaits
  have hkeep : s.closeRecords.slu.overflow = [] := by
    rw [hover, hoverflow]
    rcases partialRecs_cases s with hnil | ⟨r, hr⟩
    · rw [hnil]
      rfl
    · rw [hr]
      rfl
  have hempty : s.closeRecords.rst.queue = [] := hrun.queue.trans (by rw [hqueue]; rfl)
  have hmeets : s.closeRecords.rst.ctl.isFailed = true := hrun.meets
  rw [← rst_closeFigures] at hmeets hempty
  rw [← lgu_closeFigures] at hnone
  rw [← slu_closeFigures] at hkeep
  rw [closeJob_eq]
  exact release_failed (state_closeFigures _) (record_closeFigures s) hmeets hnone hkeep hempty

end

end Sys2Proof.CirculationProofs
end

section
/-! Job Close settled (R134, R135). -/

namespace Sys2Proof.CirculationProofs

open Sys2Proof Machine ConnectionProofs

section
variable {s : State}

/-- The quantities of the job record that come from the units as they stood before the close (R135). -/
theorem closingRecord_quantities (ho : s.jmu.state = .opened) :
    (closingRecord s).clock = s.jmu.clock ∧ (closingRecord s).meters = s.jmu.meters
      ∧ (closingRecord s).bounds = s.jmu.tariff.bounds ∧ (closingRecord s).mud = s.jmu.mud
      ∧ (closingRecord s).sacks = s.jmu.sacks ∧ (closingRecord s).lostBha = s.jmu.lostBha
      ∧ (closingRecord s).lostRods = s.jmu.lostRods := by
  have hjmu := jmu_closeRecords ho
  have hclock : s.closeRecords.jmu.clock = s.jmu.clock := by rw [hjmu]
  have hmeters : s.closeRecords.jmu.meters = s.jmu.meters := by rw [hjmu]
  have htariff : s.closeRecords.jmu.tariff = s.jmu.tariff := by rw [hjmu]
  have hmud : s.closeRecords.jmu.mud = s.jmu.mud := by rw [hjmu]
  have hsacks : s.closeRecords.jmu.sacks = s.jmu.sacks := by rw [hjmu]
  have hlostBha : s.closeRecords.jmu.lostBha = s.jmu.lostBha := by rw [hjmu]
  have hlostRods : s.closeRecords.jmu.lostRods = s.jmu.lostRods := by rw [hjmu]
  exact ⟨hclock, hmeters, congrArg Tariff.bounds htariff, hmud, hsacks, hlostBha, hlostRods⟩

/-- What a job record takes over from a final statement (R135). -/
theorem jobRecord_statement (s : State) (x : Statement) (figures : CloseFigures) :
    (s.jobRecord x figures).ident = x.ident
      ∧ (s.jobRecord x figures).amounts = x.lines.map (fun l => (l.amount, l.sat))
      ∧ (s.jobRecord x figures).total = x.total ∧ (s.jobRecord x figures).saturated = x.saturated := ⟨rfl, rfl, rfl, rfl⟩

theorem closingRecord_hole (s : State) : (closingRecord s).hole = s.str.hole :=
  congrArg (fun g => g.str.hole) (rig_closeRecords s)

theorem closingRecord_cells (s : State) : (closingRecord s).cells = s.closeJob.jmu.cells := (cells_closeJob s).symm

theorem closingRecord_figures (s : State) : (closingRecord s).figures = s.ccu.figures :=
  congrArg CircUnit.figures (ccu_closeRecords s)

theorem closingRecord_lostVolume (s : State) : (closingRecord s).lostVolume = s.ccu.lost :=
  congrArg CircUnit.lost (ccu_closeRecords s)

theorem closingRecord_intervals (s : State) : (closingRecord s).intervals = s.closeJob.slu.closed := by
  rw [(departs_closeJob s).slu, slu_closeFigures]
  rfl

/-- The units that Job Close leaves alone. -/
theorem units_closeJob (s : State) :
    s.closeJob.str = s.str ∧ s.closeJob.cxu = s.cxu ∧ s.closeJob.flu = s.flu ∧ s.closeJob.tick = s.tick :=
  have hrig := rig_closeJob s
  ⟨congrArg Rig.str hrig, congrArg Rig.cxu hrig, congrArg Rig.flu hrig, congrArg Rig.tick hrig⟩

end

/-- Settles O45: the records become final one after another and move pending and cells alone; each run of offers has one
outcome, and the last steps compose from what stands. -/
theorem closingAJob : Obligations.ClosingAJob := by
  unfold Obligations.ClosingAJob
  intro ln tag s h
  have answered : ∀ {st u}, ownJobClose s = say st u → exec (.jobClose ln tag) s = .next (u.sayOn ln 49 tag st) :=
    request_of_say h tag
  refine ⟨fun hno => answered (by simp only [ownJobClose, hno]), fun ph hc => answered (by simp only [ownJobClose, hc]),
    fun ho => ⟨s.closeJob, closingStatement s, closingRecord s, answered (by simp only [ownJobClose, ho]), ?_⟩⟩
  obtain ⟨hiv, hclosed⟩ := slu_closeJob s
  obtain ⟨hclock, hmeters, hbounds, hmud, hsacks, hlostBha, hlostRods⟩ := closingRecord_quantities ho
  obtain ⟨hident, hamounts, htotal, hsaturated⟩ :=
    jobRecord_statement (composing s.closeRecords) (closingStatement s) s.closeRecords.ccu.figures
  have hfigures : some (closingRecord s).figures = s.closeJob.ccu.close := by
    rw [ccu_closeJob, closingRecord_figures]
  refine ⟨hiv, fun iv hs => ?_, finalWaiting_closeJob s, fun hq => ?_, pending_zero_closeJob ho, ccu_closeJob s,
    jmu_closeJob ho, closingStatement_eq ho, hident, closingRecord_hole s, hclock, hmeters, closingRecord_cells s, hbounds,
    hmud, hsacks, closingRecord_lostVolume s, hlostBha, hlostRods, hfigures, hamounts, htotal, hsaturated, closingRecord_intervals s,
    closing_closeJob, closeJob_failed, units_closeJob s⟩
  · rw [hclosed, closedAtClose, hs]
  · obtain ⟨hpending, hcells⟩ := figures_closeJob hq
    exact ⟨hpending, hcells, closeJob_room hq, closeJob_full hq⟩

end Sys2Proof.CirculationProofs
end

section
/-! What a step can do, as far as the invariants of the queue and the settings see it, said once; and the order of the
cuttings queue through every step (R71, R77). -/

namespace Sys2Proof.LagProofs

open Sys2Proof Machine ConnectionProofs CirculationProofs

/-! ### What a command can do to a state -/

/-- The parts of which every command is made: an operation that keeps the books and the settings, the offer of Save Settings
(R143), a cold start (R154) and a loss of power (R141). -/
inductive Moves : State → State → Prop where
  | keeps {s t : State} (h : Keeps s t) : Moves s t
  | saveSettings (s : State) : Moves s (ownSaveSettings s).1
  | cold (s : State) (st : Straps) (torn : TornWrite) (decay : List SlotDecay) :
      Moves s (s.cold st (decay.foldl Areas.decay (s.rst.torn torn)))
  | dark (s : State) (torn : TornWrite) : Moves s (s.dark torn)
  | trans {s t u : State} (h : Moves s t) (h' : Moves t u) : Moves s u

theorem Moves.of_view {s t : State} (h : view t = view s) : Moves s t := .keeps (.of_view h)

theorem Moves.refl (s : State) : Moves s s := .keeps (.refl s)

/-- An operation run under a condition. -/
theorem Moves.ite {s t : State} {c : Prop} [Decidable c] (h : Moves s t) : Moves s (if c then t else s) := by
  split
  · exact h
  · exact .refl s

/-! ### Requests (R173) -/

/-- What the owner of a request does to the state. -/
theorem moves_owner (i : Instr) (s : State) : Moves s (owner i s).1 := by
  cases i with
  | saveSettings => exact .saveSettings s
  | setRodClass => exact .keeps (keeps_setRodClass _ _ _ _ _ s)
  | registerRod => exact .keeps (keeps_registerRod _ _ _ s)
  | layDownRod => exact .keeps (keeps_layDownRod _ s)
  | restoreRod => exact .keeps (keeps_restoreRod _ s)
  | retireRod => exact .keeps (keeps_retireRod _ s)
  | saveRods => exact .keeps (.offerImage s rfl)
  | setBha => exact .keeps (keeps_setBha _ _ _ s)
  | setDepthLimits => exact .keeps (keeps_setDepthLimits _ _ s)
  | setBlockHeight => exact .keeps (keeps_setBlockHeight _ s)
  | declareString => exact .keeps (keeps_declareString _ _ _ _ s)
  | declareParted => exact .keeps (keeps_declareParted _ s)
  | readStringList => exact .keeps (keeps_read s _)
  | readRod => exact .keeps (keeps_readRod _ s)
  | readRodTable => exact .keeps (keeps_read s _)
  | pick => exact .keeps (keeps_pick _ s)
  | stab => exact .keeps (keeps_stab s)
  | madeUp => exact .keeps (keeps_madeUp _ s)
  | abortAdd => exact .keeps (keeps_abortAdd s)
  | breakOut => exact .keeps (keeps_breakOut s)
  | broken => exact .keeps (keeps_broken s)
  | racked => exact .keeps (keeps_racked s)
  | laidDown => exact .keeps (keeps_laidDown s)
  | acknowledgeFault => exact .keeps (keeps_acknowledgeFault _ s)
  | setPump => exact .keeps (keeps_setPump _ _ _ _ s)
  | setCirculationLimits => exact .keeps (keeps_setCirculationLimits _ _ _ _ _ s)
  | setHoleSections => exact .keeps (keeps_setHoleSections _ _ s)
  | setSampleWindow => exact .keeps (keeps_setSampleWindow _ _ s)
  | logSample => exact .keeps (keeps_logSample _ _ _ _ s)
  | readCuttingsQueue => exact .keeps (keeps_read s _)
  | setIntervalStep => exact .keeps (keeps_setIntervalStep _ s)
  | setLithologyTable => exact .keeps (keeps_setLithologyTable _ s)
  | reportWaterStrike => exact .keeps (keeps_reportWaterStrike _ s)
  | addNote => exact .keeps (keeps_addNote _ _ s)
  | readStrata => exact .keeps (keeps_storeRead s _ _ _)
  | readStrataLatest => exact .keeps (keeps_storeRead s _ _ _)
  | downtimeStart => exact .keeps (keeps_downtimeStart _ s)
  | downtimeEnd => exact .keeps (keeps_downtimeEnd s)
  | mixReport => exact .keeps (keeps_mixReport _ _ s)
  | setTariffs => exact .keeps (keeps_setTariffs _ _ _ s)
  | statement => exact .keeps (keeps_statement s)
  | jobOpen => exact .keeps (keeps_jobOpen _ _ _ s)
  | jobClose => exact .keeps (keeps_jobClose s)
  | readJob => exact .keeps (keeps_storeRead s _ _ _)
  | readSettingsImage => exact .keeps (keeps_storeRead s _ _ _)
  | readRodsImage => exact .keeps (keeps_storeRead s _ _ _)
  | setLineFunction => exact .keeps (keeps_setLineFunction _ _ _ _ s)
  | driveGeneralOutput => exact .keeps (keeps_driveGeneralOutput _ _ s)
  | linkReset => exact .keeps (keeps_linkReset _ s)
  | clearLock => exact .of_view (view_modLink s _ _)
  | setNoticeMasks => exact .keeps (keeps_setNoticeMasks _ _ _ s)
  | clearNotices => exact .keeps (keeps_clearNotices _ _ s)
  | _ => exact .refl s

/-- The taking of a request replies on the links, or is the owner's effect and its reply. -/
theorem takeRequest_cases (s : State) (ln : Link) (tag : Nat) (k : Kind) (lengthOk : Bool) (own : State → State × Answer) :
    view (s.takeRequest ln tag k lengthOk own) = view s ∨ view (s.takeRequest ln tag k lengthOk own) = view (own s).1 := by
  have hown : view ((own s).1.answer ln k.number tag (own s).2) = view (own s).1 := view_answer _ _ _ _ _
  unfold State.takeRequest
  split
  · exact .inl (view_discardFrame s ln _)
  split
  · exact .inr hown
  split
  · exact .inl (view_sayOn s ln _ _ _)
  split
  · exact .inl (view_sayOn s ln _ _ _)
  split
  · exact .inl ((view_sayOn _ ln _ _ _).trans (view_modLink s ln _))
  split
  · exact .inl (view_sayOn s ln _ _ _)
  · exact .inr hown

theorem moves_takeRequest (i : Instr) (s : State) (ln : Link) (tag : Nat) (k : Kind) (lengthOk : Bool) :
    Moves s (s.takeRequest ln tag k lengthOk (owner i)) :=
  (takeRequest_cases s ln tag k lengthOk (owner i)).elim .of_view fun h => (moves_owner i s).trans (.of_view h)

/-! ### Frames and bytes (R170, R171) -/

theorem moves_takeFrame (s : State) (ln : Link) (kind tag : Nat) (body : List Byte) :
    Moves s (s.takeFrame ln kind tag body) := by
  unfold State.takeFrame
  split
  · exact moves_takeRequest _ s ln tag _ _
  · exact .of_view (view_takeUnknown s ln tag kind)

theorem moves_collect (s : State) (ln : Link) (bytes : List Byte) : Moves s (s.collect ln bytes) := by
  have hlink : ∀ f, Moves s (s.modLink ln f) := fun f => .of_view (view_modLink s ln f)
  have hdiscard : ∀ c, Moves s (s.discardFrame ln c) := fun c => .of_view (view_discardFrame s ln c)
  unfold State.collect
  split
  · split
    · exact hdiscard _
    split
    · exact hlink _
    split
    · exact hdiscard _
    dsimp only
    split
    · exact (hlink _).trans (moves_takeFrame _ ln _ _ _)
    · exact hlink _
  · exact .refl s

theorem moves_receive (s : State) (ln : Link) (b : Byte) : Moves s (s.receive ln b) := by
  unfold State.receive
  split
  · exact .of_view (view_hunt s ln b)
  · split
    · exact .of_view ((view_hunt _ ln b).trans (view_discardFrame _ _ _))
    · exact moves_collect s ln _

/-! ### Commands and steps -/

/-- A request command comes to the owner of the request by way of its taking. -/
theorem moves_request {i : Instr} {ln : Link} {tag : Nat} {k : Kind} {body : List Byte}
    (henc : encodeRequest i = some (ln, tag, k, body)) {s t : State} (h : exec i s = .next t) : Moves s t := by
  rw [exec_request henc] at h
  cases h
  exact (moves_takeRequest i s ln tag k true).ite

/-- What a command can do: every one is a composition of the parts. -/
theorem moves_exec {i : Instr} {s t : State} (h : exec i s = .next t) : Moves s t := by
  cases i with
  | coldStart straps torn decay => cases h; exact .cold s straps torn decay
  | powerLoss torn => cases h; exact .dark s torn
  | startupLoadComplete => cases h; exact Moves.ite (.of_view (t := { s with loaded := true }) rfl)
  | timeBaseTick => cases h; exact Moves.ite (.keeps (.timeTick s))
  | pumpTimeout pump => cases h; exact Moves.ite (.of_view (view_pumpStops s pump))
  | pinLevelChange line high after =>
    cases h
    split
    · exact .of_view ((view_pinChange _ line high).trans (view_passTime s after))
    · exact .of_view (view_modFlu (lineSettings_putLine rfl rfl))
  | inputFilterExpiry line => cases h; exact Moves.ite (.keeps (.filterExpiry s line))
  | windowCompletion => cases h; exact Moves.ite (.of_view (view_completeWindow s))
  | dueDetection => cases h; exact Moves.ite (Moves.ite (.keeps (.dueDetection s)))
  | windowExpiry => cases h; exact Moves.ite (Moves.ite (.keeps (.windowExpiry s)))
  | interByteTimeout ln =>
    cases h
    refine Moves.ite (.of_view ?_)
    dsimp only
    split
    · rfl
    · exact (view_discardFrame _ ln _).trans (view_timeTo s _)
  | frameDiscard ln cause => cases h; exact Moves.ite (.of_view (view_discardFrame s ln cause))
  | unknownKind ln tag kind => cases h; exact Moves.ite (moves_takeFrame s ln kind tag [])
  | transmissionEnd ln => cases h; exact Moves.ite (.of_view (view_modLink s ln _))
  | eraseComplete after => cases h; exact Moves.ite (.of_view ((view_eraseEnds _).trans (view_passTime s after)))
  | writeComplete verified after =>
    cases h
    exact Moves.ite (Moves.trans (.of_view (view_passTime s after)) (.keeps (.writeEnds _ verified)))
  | byteArrival ln byte after =>
    cases h
    exact Moves.ite (Moves.trans (.of_view (view_passTime s after)) (Moves.ite (moves_receive _ ln byte)))
  | _ => exact moves_request rfl h

/-- What a step can do: time passes, or the command at the front of the queue runs. -/
theorem moves_step {s t : State} (h : step s = .next t) : Moves s t := by
  unfold step at h
  split at h
  · cases h
    exact Moves.ite (.of_view (view_serveSuspended s))
  next i rest _ => exact Moves.trans (.of_view (t := { s with pending := rest }) rfl) (moves_exec h)

/-! ### The cuttings queue (R71, R77) -/

/-- A queue without parcels is in order while no interval is open. -/
theorem queueOk_empty {s : State} (hparcels : s.lgu.parcels = []) (hiv : s.slu.openIv = none) : QueueOk s := by
  unfold QueueOk
  rw [hparcels, hiv]
  exact ⟨Nat.zero_le _, rfl, rfl, nofun⟩

/-- The offer of an image and the head taken after it leave the order of the queue (R142, R144). -/
theorem queueOk_offerImage {s : State} (b : EntryBody) (hs : QueueOk s) : QueueOk (s.offerImage b).1 :=
  (Keeps.takeHead (s.offer b).1).queue hs

theorem queueOk_saveSettings {s : State} (hs : QueueOk s) : QueueOk (ownSaveSettings s).1 := by
  unfold ownSaveSettings
  split
  · exact hs
  · exact queueOk_offerImage _ hs

/-- A cold start and a loss of power empty the queue and close the interval, and every other part keeps the order. -/
theorem Moves.queueOk {s t : State} (h : Moves s t) : QueueOk s → QueueOk t := by
  induction h with
  | keeps h => exact h.queue
  | saveSettings s => exact queueOk_saveSettings
  | cold s st torn decay => exact fun _ => queueOk_empty rfl rfl
  | dark s torn => exact fun _ => queueOk_empty rfl rfl
  | trans _ _ ih ih' => exact ih' ∘ ih

/-- Settles O56: a step is composed of parts (`moves_step`), and each part keeps the order of the queue. -/
theorem stepKeepsTheCuttingsQueue : Obligations.StepKeepsTheCuttingsQueue := fun _ _ hs h => (moves_step h).queueOk hs

end Sys2Proof.LagProofs
end

section
/-! Settings of the Lag Unit and the Strata Log Unit (R62, R79, R80, R96, R100). -/

namespace Sys2Proof.LagProofs

open Sys2Proof Machine ConnectionProofs CirculationProofs

/-! ### Set Hole Sections (R62) -/

theorem inRange_eq_false_iff {lo hi v : Nat} : inRange lo hi v = false ↔ v < lo ∨ hi < v := by
  rw [← Bool.not_eq_true, inRange_iff]
  omega

/-- The table that Set Hole Sections writes: each bore volume brought in. -/
def sectionTable (sections : List (Nat × Nat)) : List Section :=
  sections.map fun x => ⟨x.1, bringIn 1000 400000 x.2⟩

theorem sectionTable_eq (sections : List (Nat × Nat)) :
    sectionTable sections = sections.map fun x => ⟨x.1, max 1000 (min x.2 400000)⟩ := by
  simp only [sectionTable, bringIn_eq_max_min (by decide : 1000 ≤ 400000)]

/-- The table holds the volumes as carried exactly if each lies in its range. -/
theorem sectionTable_caps_iff (sections : List (Nat × Nat)) :
    (sectionTable sections).map (·.cap) = sections.map (·.2) ↔ ∀ x ∈ sections, 1000 ≤ x.2 ∧ x.2 ≤ 400000 := by
  simp only [sectionTable, List.map_map, List.map_inj_left, Function.comp_apply,
    bringIn_eq_iff (by decide : 1000 ≤ 400000)]

theorem depths_all_iff (sections : List (Nat × Nat)) :
    (sections.all fun x => inRange 1 maxDepth x.1) = false ↔ ¬ ∀ x ∈ sections, 1 ≤ x.1 ∧ x.1 ≤ 1500000 := by
  rw [← Bool.not_eq_true, List.all_eq_true]
  simp only [inRange_iff, maxDepth]

/-- The checks of Set Hole Sections in order, what it writes, and its status (R62). -/
theorem ownSetHoleSections_eq (sections : List (Nat × Nat)) (surface : Nat) (s : State) :
    ownSetHoleSections sections surface s =
      if sections.length < 1 ∨ 8 < sections.length then say .badValue s
      else if ¬ ∀ x ∈ sections, 1 ≤ x.1 ∧ x.1 ≤ 1500000 then say .badValue s
      else if strictlyRising (sections.map (·.1)) = false then say .badValue s
      else
        say (if (∀ x ∈ sections, 1000 ≤ x.2 ∧ x.2 ≤ 400000) ∧ surface ≤ 2000000 then .ok else .clamped)
          ((s.modLgu fun u => { u with
            sections := sections.map fun x => ⟨x.1, max 1000 (min x.2 400000)⟩
            surface := min surface 2000000 }).mark fun m => { m with sections := true }) := by
  have hsurface : bringIn 0 2000000 surface = min surface 2000000 := by
    rw [bringIn_eq_max_min (Nat.zero_le _), Nat.zero_max]
  have htaken : ((∀ x ∈ sections, 1000 ≤ x.2 ∧ x.2 ≤ 400000) ∧ surface ≤ 2000000) ↔
      ¬ ((sectionTable sections).map (·.cap) ≠ sections.map (·.2) ∨ bringIn 0 2000000 surface ≠ surface) := by
    rw [← sectionTable_caps_iff, not_or, not_not, not_not, hsurface, min_eq_left_iff]
  simp only [← sectionTable_eq, ← okOr_eq_ite htaken, ← hsurface, ← depths_all_iff, ← inRange_eq_false_iff]
  rfl

/-! ### Set Sample Window (R79, R80) -/

/-- Set Sample Window writes both settings and judges the level against the queue at once (R79, R80). -/
theorem ownSetSampleWindow_eq (volume level : Nat) (s : State) :
    ownSetSampleWindow volume level s =
      let v := max 20000 (min volume 2000000)
      let n := max 8 (min level 32)
      let raw := decide (n ≤ s.lgu.parcels.length)
      say (if v = volume ∧ n = level then .ok else .clamped)
        ((s.modLgu fun u => { u with sampleWindow := v, nearLevel := n, nearRaw := raw }).fireLevel .queueNearFull
          s.lgu.nearRaw raw) := by
  rw [← bringIn_eq_max_min (by decide : 20000 ≤ 2000000), ← bringIn_eq_max_min (by decide : 8 ≤ 32)]
  dsimp only
  rw [← okOr_eq_ite (clamped := bringIn 20000 2000000 volume ≠ volume ∨ bringIn 8 32 level ≠ level) (by
    rw [not_or, not_not, not_not])]
  rfl

/-! ### Set Interval Step (R96) -/

/-- A multiple of 50 mm, by the remainder taken off (R96). -/
theorem stepOf_eq (step : Nat) : stepOf step = max 250 (min step 5000) - max 250 (min step 5000) % 50 := by
  rw [stepOf, bringIn_eq_max_min (by decide)]
  omega

theorem ownSetIntervalStep_eq (step : Nat) (s : State) :
    ownSetIntervalStep step s =
      say (if stepOf step = step then .ok else .clamped) (s.modSlu fun u => { u with step := stepOf step }) := by
  rw [← okOr_eq_ite (clamped := stepOf step ≠ step) not_not.symm]
  rfl

/-! ### A list put in order -/

section
variable {α : Type} (key : α → Nat)

/-- A new key adds its item and drops none. -/
theorem insertRising_perm {x : α} {l : List α} (h : ∀ y ∈ l, key x ≠ key y) : (insertRising key x l).Perm (x :: l) := by
  induction l with
  | nil => exact .refl _
  | cons y l ih =>
    obtain ⟨hy, hl⟩ := List.forall_mem_cons.mp h
    unfold insertRising
    rw [if_neg hy]
    split
    · exact .refl _
    · exact ((ih hl).cons y).trans (.swap x y l)

/-- Items of different keys, inserted in turn, are all there at the end. -/
theorem foldl_insertRising_perm (table : List α) : ∀ acc : List α, ((table ++ acc).map key).Nodup →
    (table.foldl (fun acc x => insertRising key x acc) acc).Perm (table ++ acc) := by
  induction table with
  | nil => exact fun acc _ => .refl acc
  | cons x table ih =>
    intro acc h
    obtain ⟨hx, -⟩ := List.nodup_cons.mp h
    have hperm : (insertRising key x acc).Perm (x :: acc) := insertRising_perm key fun y hy heq =>
      hx (heq ▸ List.mem_map_of_mem (List.mem_append_right table hy))
    have hmove : (table ++ insertRising key x acc).Perm (x :: (table ++ acc)) :=
      (hperm.append_left table).trans List.perm_middle
    exact (ih _ ((hmove.map key).nodup_iff.mpr h)).trans hmove

end

/-! ### Set Lithology Table (R100) -/

theorem hasTwice_iff (l : List Nat) : hasTwice l = true ↔ ¬ l.Nodup := by
  induction l with
  | nil => simp [hasTwice]
  | cons x l ih => simp only [hasTwice, Bool.or_eq_true, List.contains_iff_mem, ih, List.nodup_cons]; tauto

theorem ofTableCode_eq_some_iff {n : Nat} {c : RockClass} : RockClass.ofTableCode n = some c ↔ n ≤ 2 ∧ n = c.code := by
  match n with
  | 0 | 1 | 2 => cases c <;> decide
  | n + 3 => exact ⟨nofun, fun ⟨h, _⟩ => absurd h (by omega)⟩

/-- A pair that Set Lithology Table may carry: a code from 1 to 63 and a class SOFT, MEDIUM or HARD. -/
abbrev ValidEntry (x : Nat × Nat) : Prop := 1 ≤ x.1 ∧ x.1 ≤ 63 ∧ x.2 ≤ 2

theorem lithEntry_eq_some_iff {x : Nat × Nat} {e : LithEntry} :
    lithEntry x = some e ↔ ValidEntry x ∧ x = (e.code, e.cls.code) := by
  obtain ⟨code, n⟩ := x
  obtain ⟨ecode, cls⟩ := e
  simp only [lithEntry, Option.ite_none_right_eq_some, inRange_iff, Option.map_eq_some_iff, ofTableCode_eq_some_iff,
    LithEntry.mk.injEq, ValidEntry, Prod.mk.injEq]
  constructor
  · rintro ⟨⟨h1, h63⟩, c, ⟨hn, rfl⟩, rfl, rfl⟩
    exact ⟨⟨h1, h63, hn⟩, rfl, rfl⟩
  · rintro ⟨⟨h1, h63, hn⟩, rfl, rfl⟩
    exact ⟨⟨h1, h63⟩, cls, ⟨hn, rfl⟩, rfl, rfl⟩

theorem exists_lithEntry {x : Nat × Nat} (h : ValidEntry x) : ∃ e : LithEntry, lithEntry x = some e ∧ e.code = x.1 := by
  obtain ⟨c, hc⟩ : ∃ c : RockClass, x.2 = c.code := by
    obtain ⟨-, -, hn⟩ := h
    interval_cases x.2
    exacts [⟨.soft, rfl⟩, ⟨.medium, rfl⟩, ⟨.hard, rfl⟩]
  exact ⟨⟨x.1, c⟩, lithEntry_eq_some_iff.mpr ⟨h, Prod.ext rfl hc⟩, rfl⟩

section
variable {entries : List (Nat × Nat)}

/-- The entries make a table of their own length exactly if each may be carried. -/
theorem length_lithEntries_iff : (entries.filterMap lithEntry).length = entries.length ↔ ∀ x ∈ entries, ValidEntry x := by
  rw [List.filterMap_length_eq_length]
  refine forall₂_congr fun x _ => ⟨fun h => ?_, fun h => ?_⟩
  · obtain ⟨e, he⟩ := Option.isSome_iff_exists.mp h
    exact (lithEntry_eq_some_iff.mp he).1
  · obtain ⟨e, he, -⟩ := exists_lithEntry h
    exact he ▸ rfl

/-- The table has the codes of the entries. -/
theorem codes_lithEntries (h : ∀ x ∈ entries, ValidEntry x) :
    (entries.filterMap lithEntry).map (·.code) = entries.map (·.1) := by
  have hcode : ∀ x ∈ entries, (lithEntry x).map (·.code) = some x.1 := fun x hx => by
    obtain ⟨e, he, hcode⟩ := exists_lithEntry (h x hx)
    rw [he, Option.map_some, hcode]
  rw [List.map_filterMap, List.filterMap_congr hcode]
  exact congrFun (List.filterMap_eq_map (f := fun x : Nat × Nat => x.1)) entries

theorem mem_lithEntries (h : ∀ x ∈ entries, ValidEntry x) {code : Nat} {cls : RockClass} :
    (⟨code, cls⟩ : LithEntry) ∈ entries.filterMap lithEntry ↔ (code, cls.code) ∈ entries := by
  simp only [List.mem_filterMap, lithEntry_eq_some_iff]
  constructor
  · rintro ⟨x, hx, -, rfl⟩
    exact hx
  · exact fun hx => ⟨_, hx, h _ hx, rfl⟩

/-- The table that an accepted Set Lithology Table writes. -/
def lithTable (entries : List (Nat × Nat)) : List LithEntry :=
  (entries.filterMap lithEntry).foldl (fun acc e => insertRising (·.code) e acc) []

/-- It rises by code, with one entry for each pair carried and no other (R100). -/
theorem lithTable_spec (h : ∀ x ∈ entries, ValidEntry x) (hnodup : (entries.map (·.1)).Nodup) :
    strictlyRising ((lithTable entries).map (·.code)) = true ∧ (lithTable entries).length = entries.length
      ∧ ∀ code : Nat, ∀ cls : RockClass, (⟨code, cls⟩ : LithEntry) ∈ lithTable entries ↔ (code, cls.code) ∈ entries := by
  have hperm : (lithTable entries).Perm (entries.filterMap lithEntry) := by
    have := foldl_insertRising_perm (·.code) (entries.filterMap lithEntry) []
    rw [List.append_nil, codes_lithEntries h] at this
    exact this hnodup
  have hrange : ∀ e ∈ entries.filterMap lithEntry, inRange 1 63 e.code = true := fun e he => by
    obtain ⟨x, -, hx⟩ := List.mem_filterMap.mp he
    exact lithEntry_code hx
  obtain ⟨-, -, hrising⟩ := lith_foldl (entries.filterMap lithEntry) [] hrange nofun .nil
  exact ⟨(strictlyRising_iff _).mpr hrising, hperm.length_eq.trans (length_lithEntries_iff.mpr h),
    fun code cls => hperm.mem_iff.trans (mem_lithEntries h)⟩

end

/-- The checks of Set Lithology Table in order, and what it writes (R100). -/
theorem ownSetLithologyTable_eq (entries : List (Nat × Nat)) (s : State) :
    ownSetLithologyTable entries s =
      if 63 < entries.length ∨ ¬ ∀ x ∈ entries, ValidEntry x then say .badValue s
      else if ¬ (entries.map (·.1)).Nodup then say .badValue s
      else if ∃ p ∈ s.lgu.parcels, p.status = .due then say .busy s
      else say .ok (s.modSlu fun u => { u with lith := lithTable entries }) := by
  have hvalid : (entries.filterMap lithEntry).length ≠ entries.length ↔ ¬ ∀ x ∈ entries, ValidEntry x :=
    not_congr length_lithEntries_iff
  have hdue : s.lgu.anyDue = true ↔ ∃ p ∈ s.lgu.parcels, p.status = .due := by simp [LagUnit.anyDue]
  simp only [ownSetLithologyTable, hvalid, hasTwice_iff, hdue]
  rfl

/-! ### The four requests -/

/-- Settles O38: each request's checks and settings by its equation, the lithology table by `lithTable_spec`. -/
theorem settingLagAndLog : Obligations.SettingLagAndLog := by
  unfold Obligations.SettingLagAndLog
  refine ⟨fun ln tag sections surface s h => ?_, fun ln tag volume level s h => ?_, fun ln tag step s h => ?_,
    fun ln tag entries s h => ?_⟩
  · have answered : ∀ {st u}, ownSetHoleSections sections surface s = say st u →
        exec (.setHoleSections ln tag sections surface) s = .next (u.sayOn ln 29 tag st) := request_of_say h tag
    have howner := ownSetHoleSections_eq sections surface s
    split
    next hcount => exact answered (howner.trans (if_pos hcount))
    next hcount =>
    rw [if_neg hcount] at howner
    split
    next hdepth => exact answered (howner.trans (if_pos hdepth))
    next hdepth =>
    rw [if_neg hdepth] at howner
    split
    next horder => exact answered (howner.trans (if_pos horder))
    next horder => exact answered (howner.trans (if_neg horder))
  · exact request_of_say h tag (ownSetSampleWindow_eq volume level s)
  · dsimp only
    rw [← stepOf_eq]
    exact request_of_say h tag (ownSetIntervalStep_eq step s)
  · have answered : ∀ {st u}, ownSetLithologyTable entries s = say st u →
        exec (.setLithologyTable ln tag entries) s = .next (u.sayOn ln 35 tag st) := request_of_say h tag
    have howner := ownSetLithologyTable_eq entries s
    refine ⟨fun hbad => answered (howner.trans (if_pos ?_)), fun htwice => answered (howner.trans ?_),
      fun hcount hvalid hnodup => ?_⟩
    · refine hbad.imp_right fun ⟨x, hx, hout⟩ hvalid => ?_
      obtain ⟨h1, h63, h2⟩ := hvalid x hx
      omega
    · rw [if_pos htwice, ite_self]
    · rw [if_neg (not_or.mpr ⟨Nat.not_lt.mpr hcount, not_not.mpr hvalid⟩), if_neg (not_not.mpr hnodup)] at howner
      refine ⟨fun hdue => answered (howner.trans (if_pos hdue)), fun hnone => ?_⟩
      exact ⟨lithTable entries, answered (howner.trans (if_neg fun ⟨p, hp, hdue⟩ => hnone p hp hdue)),
        lithTable_spec hvalid hnodup⟩

end Sys2Proof.LagProofs
end


section
/-! The rooms of the links, the commit queue and the overflow (R91, R142, R149, R174, R175, R180): what a link's lists do, and
one relation between states that composes. -/

namespace Sys2Proof.CuttingsProofs

open Sys2Proof Machine

/-! ### The lists of one link -/

/-- A link's notice queue keeps to its room, and an idle transmitter has nothing to send (R175, R180). -/
def Tidy (l : LinkRec) : Prop :=
  l.notices.length ≤ 16 ∧ (l.sending = none → l.replies = [] ∧ l.notices = [])

/-- From `l` to `m` a link stays in order, and no reply joins its list. -/
structure Stays (l m : LinkRec) : Prop where
  tidy : Tidy l → Tidy m
  replies : m.replies.length ≤ l.replies.length

variable {l m : LinkRec}

theorem Stays.trans {n : LinkRec} (h : Stays l m) (h' : Stays m n) : Stays l n :=
  ⟨h'.tidy ∘ h.tidy, h'.replies.trans h.replies⟩

/-- A change of what the lists and the transmitter do not hold. -/
theorem Stays.of_same (h : (m.replies, m.sending, m.notices) = (l.replies, l.sending, l.notices)) : Stays l m := by
  simp only [Prod.mk.injEq] at h
  obtain ⟨hreplies, hsending, hnotices⟩ := h
  refine ⟨fun hl => ?_, hreplies ▸ le_rfl⟩
  rw [Tidy, hreplies, hsending, hnotices]
  exact hl

theorem Stays.refl (l : LinkRec) : Stays l l := .of_same (by rfl)

/-- The departure of a frame lets in at most the owed overflow frame, and takes no reply (R180). -/
theorem afterDeparture_bounds (l : LinkRec) :
    l.afterDeparture.notices.length ≤ l.notices.length + 1 ∧ l.afterDeparture.replies = l.replies := by
  unfold LinkRec.afterDeparture
  split
  · split
    · split
      · exact ⟨Nat.le_succ _, rfl⟩
      · simp
    · exact ⟨Nat.le_succ _, rfl⟩
  · exact ⟨Nat.le_succ _, rfl⟩

/-- Whatever the transmitter takes up, neither list grows (R175). -/
theorem sendNext_bounds (l : LinkRec) :
    l.sendNext.notices.length ≤ l.notices.length ∧ l.sendNext.replies.length ≤ l.replies.length := by
  unfold LinkRec.sendNext
  split
  · exact ⟨le_rfl, le_rfl⟩
  · split
    next hr => exact ⟨le_rfl, by simp [hr]⟩
    next hr =>
      split
      next n ns hn =>
        obtain ⟨hnotices, hreplies⟩ :=
          afterDeparture_bounds { l with notices := ns, sending := some (.notice n) }
        rw [hreplies, hn]
        exact ⟨hnotices, le_rfl⟩
      next => exact ⟨le_rfl, le_rfl⟩

theorem tidy_sendNext (h : l.notices.length ≤ 16) : Tidy l.sendNext :=
  ⟨(sendNext_bounds l).1.trans h, LinkRec.sendNext_idle⟩

/-- A reply that is made takes one place at most (R174, R175). -/
theorem tidy_addReply (r : Reply) (h : Tidy l) : Tidy (l.addReply r) := tidy_sendNext h.1

theorem replies_addReply (l : LinkRec) (r : Reply) : (l.addReply r).replies.length ≤ l.replies.length + 1 :=
  (sendNext_bounds _).2.trans (by simp)

theorem Stays.transmissionEnd (l : LinkRec) : Stays l l.transmissionEnd := by
  have hidle : Stays l (LinkRec.sendNext { l with sending := none }) :=
    ⟨fun h => tidy_sendNext h.1, (sendNext_bounds _).2⟩
  unfold LinkRec.transmissionEnd
  split
  · exact .refl l
  next r part hs =>
    split
    · exact ⟨fun h => ⟨h.1, nofun⟩, le_rfl⟩
    · exact hidle
  · exact hidle

theorem Stays.fireOverflow (l : LinkRec) (c : Cond) (clock : Nat) : Stays l (l.fireOverflow c clock) := by
  unfold LinkRec.fireOverflow
  split
  · exact .refl l
  · dsimp only
    split
    · split
      · exact .of_same (by rfl)
      · exact .refl l
    · exact .of_same (by rfl)

/-- A notice frame finds room, or is lost (R180). -/
theorem Stays.queueNotice (l : LinkRec) (c : Cond) (x : Latch) (clock : Nat) : Stays l (l.queueNotice c x clock) := by
  unfold LinkRec.queueNotice
  split
  next hroom =>
    refine ⟨fun _ => tidy_sendNext ?_, (sendNext_bounds _).2⟩
    rw [List.length_append]
    exact hroom
  next =>
    split
    · exact .of_same (by rfl)
    · exact Stays.trans (.of_same (by rfl)) (.fireOverflow _ c clock)

/-- A firing keeps a link in order (R179, R180). -/
theorem Stays.fire (l : LinkRec) (c : Cond) (x : Content) (clock : Nat) : Stays l (l.fire c x clock) := by
  unfold LinkRec.fire
  split
  · exact .refl l
  · dsimp only
    split
    · split
      · exact .of_same (by rfl)
      · exact .refl l
    · exact Stays.trans (.of_same (by rfl)) (.queueNotice _ c _ clock)

theorem Stays.foldl {α : Type} {f : LinkRec → α → LinkRec} (hf : ∀ l x, Stays l (f l x)) (xs : List α) :
    ∀ l, Stays l (xs.foldl f l) := by
  induction xs with
  | nil => exact .refl
  | cons x xs ih => exact fun l => (hf l x).trans (ih _)

theorem Stays.setMasks (l : LinkRec) (conds : List Cond) (b : Bool) (clock : Nat) : Stays l (l.setMasks conds b clock) := by
  have hunmasked : ∀ m c, Stays m (l.unmasked clock m c) := fun m c => by
    unfold LinkRec.unmasked
    split
    · split
      · exact .queueNotice _ _ _ _
      · exact .refl m
    · exact .refl m
  exact Stays.trans (.of_same (by rfl)) (.foldl hunmasked Cond.all _)

theorem Stays.clearLatches (l : LinkRec) (conds : List Cond) : Stays l (conds.foldl LinkRec.clearLatch l) := by
  refine .foldl (fun m c => ?_) _ _
  unfold LinkRec.clearLatch
  split <;> exact .of_same (by rfl)

/-- A Link Reset empties the notice queue and leaves the reply list (R176). -/
theorem Stays.reset (l : LinkRec) : Stays l l.reset := ⟨fun h => ⟨Nat.zero_le _, fun hs => ⟨(h.2 hs).1, rfl⟩⟩, le_rfl⟩

/-! ### The rooms of a state -/

/-- The store reads of a link that wait (R149). -/
def readsOf (s : State) (ln : Link) : Nat := (s.rst.readList.filter (fun p => p.ln == ln)).length

/-- The places of a link's reply list that are taken or kept (R174). -/
def placesOf (s : State) (ln : Link) : Nat := (s.link ln).replies.length + readsOf s ln

theorem roomsOk_iff (s : State) :
    RoomsOk s ↔ (∀ ln, placesOf s ln ≤ 4 ∧ readsOf s ln ≤ 1 ∧ Tidy (s.link ln))
      ∧ s.rst.queue.length ≤ 12 ∧ s.slu.overflow.length ≤ 4 := Iff.rfl

/-- From `s` to `t` every link stays in order and takes no new place of its reply list, and the commit queue and the overflow
keep to their room. -/
structure KeepsRooms (s t : State) : Prop where
  tidy : ∀ ln, Tidy (s.link ln) → Tidy (t.link ln)
  places : ∀ ln, placesOf t ln ≤ placesOf s ln
  reads : ∀ ln, readsOf t ln ≤ readsOf s ln
  queue : s.rst.queue.length ≤ 12 → t.rst.queue.length ≤ 12
  overflow : s.slu.overflow.length ≤ 4 → t.slu.overflow.length ≤ 4

variable {s t u : State}

theorem KeepsRooms.roomsOk (h : KeepsRooms s t) (hs : RoomsOk s) : RoomsOk t := by
  rw [roomsOk_iff] at hs ⊢
  obtain ⟨hlinks, hqueue, hoverflow⟩ := hs
  refine ⟨fun ln => ?_, h.queue hqueue, h.overflow hoverflow⟩
  obtain ⟨hplaces, hreads, htidy⟩ := hlinks ln
  exact ⟨(h.places ln).trans hplaces, (h.reads ln).trans hreads, h.tidy ln htidy⟩

theorem KeepsRooms.trans (h : KeepsRooms s t) (h' : KeepsRooms t u) : KeepsRooms s u where
  tidy ln := h'.tidy ln ∘ h.tidy ln
  places ln := (h'.places ln).trans (h.places ln)
  reads ln := (h'.reads ln).trans (h.reads ln)
  queue := h'.queue ∘ h.queue
  overflow := h'.overflow ∘ h.overflow

/-- All that the rooms are judged by. -/
def roomFigures (s : State) : LinkUnit × List PendingRead × List Entry × List StrataRec :=
  (s.liu, s.rst.readList, s.rst.queue, s.slu.overflow)

theorem KeepsRooms.of_same (h : roomFigures t = roomFigures s) : KeepsRooms s t := by
  simp only [roomFigures, Prod.mk.injEq] at h
  obtain ⟨hliu, hreads, hqueue, hoverflow⟩ := h
  have hlink : ∀ ln, t.link ln = s.link ln := fun ln => by rw [State.link, hliu]; rfl
  have hread : ∀ ln, readsOf t ln = readsOf s ln := fun ln => by
    rw [readsOf, hreads]; rfl
  have hplace : ∀ ln, placesOf t ln = placesOf s ln := fun ln => by
    rw [placesOf, hlink, hread]; rfl
  exact ⟨fun ln => by rw [hlink]; exact id, fun ln => (hplace ln).le, fun ln => (hread ln).le,
    by rw [hqueue]; exact id, by rw [hoverflow]; exact id⟩

theorem KeepsRooms.refl (s : State) : KeepsRooms s s := .of_same rfl

/-- Then nothing that the rooms are judged by changes. -/
theorem KeepsRooms.same (h : KeepsRooms s t) (hu : roomFigures u = roomFigures t) : KeepsRooms s u :=
  h.trans (.of_same hu)

theorem KeepsRooms.ite {c : Prop} [Decidable c] (ht : c → KeepsRooms s t) (hu : ¬ c → KeepsRooms s u) :
    KeepsRooms s (if c then t else u) := by
  split
  next hc => exact ht hc
  next hc => exact hu hc

theorem KeepsRooms.foldl {α : Type} {f : State → α → State} (hf : ∀ t x, KeepsRooms t (f t x)) (xs : List α) :
    ∀ s, KeepsRooms s (xs.foldl f s) := by
  induction xs with
  | nil => exact .refl
  | cons x xs ih => exact fun s => (hf s x).trans (ih _)

/-- Every list is empty after a cold start, and while the power is off. -/
theorem KeepsRooms.of_empty (hlinks : ∀ ln, (t.link ln).replies = [] ∧ (t.link ln).notices = []) (hreads : t.rst.readList = [])
    (hqueue : t.rst.queue = []) (hoverflow : t.slu.overflow = []) : KeepsRooms s t := by
  have hread : ∀ ln, readsOf t ln = 0 := fun ln => by rw [readsOf, hreads]; rfl
  have hplace : ∀ ln, placesOf t ln = 0 := fun ln => by
    rw [placesOf, hread, (hlinks ln).1]; rfl
  refine ⟨fun ln _ => ⟨by rw [(hlinks ln).2]; exact Nat.zero_le _, fun _ => hlinks ln⟩,
    fun ln => by rw [hplace]; exact Nat.zero_le _, fun ln => by rw [hread]; exact Nat.zero_le _, fun _ => ?_, fun _ => ?_⟩
  · rw [hqueue]; exact Nat.zero_le _
  · rw [hoverflow]; exact Nat.zero_le _

/-! ### Units without lists -/

section
variable (h : KeepsRooms s t)
include h

theorem KeepsRooms.modFlu {f : FieldUnit → FieldUnit} : KeepsRooms s (t.modFlu f) := h.same rfl

theorem KeepsRooms.modStr {f : StringUnit → StringUnit} : KeepsRooms s (t.modStr f) := h.same rfl

theorem KeepsRooms.modCxu {f : ConnUnit → ConnUnit} : KeepsRooms s (t.modCxu f) := h.same rfl

theorem KeepsRooms.modCcu {f : CircUnit → CircUnit} : KeepsRooms s (t.modCcu f) := h.same rfl

theorem KeepsRooms.modLgu {f : LagUnit → LagUnit} : KeepsRooms s (t.modLgu f) := h.same rfl

theorem KeepsRooms.modJmu {f : JobUnit → JobUnit} : KeepsRooms s (t.modJmu f) := h.same rfl

theorem KeepsRooms.passTime {dt : Nat} : KeepsRooms s (t.passTime dt) := h.same rfl

theorem KeepsRooms.timeTo {now : Nat} : KeepsRooms s (t.timeTo now) := h.same rfl

/-- A change of the Strata Log Unit that leaves its overflow. -/
theorem KeepsRooms.modSlu {f : StrataUnit → StrataUnit} (hf : (f t.slu).overflow = t.slu.overflow) :
    KeepsRooms s (t.modSlu f) :=
  h.trans ⟨fun _ => id, fun _ => le_rfl, fun _ => le_rfl, id, fun hroom => by rwa [State.modSlu_slu, hf]⟩

/-- A change of the Record Store that leaves its queue and its read list. -/
theorem KeepsRooms.modRst {f : Store → Store} (hf : ((f t.rst).readList, (f t.rst).queue) = (t.rst.readList, t.rst.queue)) :
    KeepsRooms s (t.modRst f) := by
  obtain ⟨hreads, hqueue⟩ := Prod.mk.inj hf
  exact h.same (by simp only [roomFigures, State.modRst_rst, hreads, hqueue]; rfl)

end

/-! ### Links and firings -/

/-- Links that stay in order keep the rooms. -/
theorem KeepsRooms.of_links (hlinks : ∀ ln, Stays (s.link ln) (t.link ln))
    (h : (t.rst, t.slu) = (s.rst, s.slu)) : KeepsRooms s t := by
  obtain ⟨hrst, hslu⟩ := Prod.mk.inj h
  have hread : ∀ ln, readsOf t ln = readsOf s ln := fun ln => by
    rw [readsOf, hrst]; rfl
  refine ⟨fun ln => (hlinks ln).tidy, fun ln => ?_, fun ln => (hread ln).le, by rw [hrst]; exact id, by rw [hslu]; exact id⟩
  exact Nat.add_le_add (hlinks ln).replies (hread ln).le

theorem KeepsRooms.modLinks (h : KeepsRooms s t) {f : LinkRec → LinkRec} (hf : ∀ l, Stays l (f l)) :
    KeepsRooms s (t.modLinks f) :=
  h.trans (.of_links (fun ln => by cases ln <;> exact hf _) rfl)

theorem KeepsRooms.modLink (h : KeepsRooms s t) (ln : Link) {f : LinkRec → LinkRec} (hf : ∀ l, Stays l (f l)) :
    KeepsRooms s (t.modLink ln f) := by
  refine h.trans (.of_links (fun ln' => ?_) rfl)
  by_cases heq : ln' = ln
  · subst heq
    rw [State.link_modLink_same]
    exact hf _
  · rw [State.link_modLink_ne _ _ heq]
    exact .refl _

theorem KeepsRooms.fire (h : KeepsRooms s t) (c : Cond) (x : Content) : KeepsRooms s (t.fire c x) :=
  h.modLinks fun l => .fire l c x _

theorem KeepsRooms.fireOn (h : KeepsRooms s t) (ln : Link) (c : Cond) (x : Content) : KeepsRooms s (t.fireOn ln c x) :=
  h.modLink ln fun l => .fire l c x _

theorem KeepsRooms.fireLevel (h : KeepsRooms s t) (c : Cond) (was now : Bool) : KeepsRooms s (t.fireLevel c was now) :=
  .ite (fun _ => h) fun _ => h.fire c _

theorem KeepsRooms.fireEach (h : KeepsRooms s t) (c : Cond) (xs : List Content) : KeepsRooms s (t.fireEach c xs) :=
  h.trans (.foldl (fun u x => (KeepsRooms.refl u).fire c x) xs t)

theorem KeepsRooms.discardFrame (h : KeepsRooms s t) (ln : Link) (c : FrameCause) : KeepsRooms s (t.discardFrame ln c) :=
  (h.modLink ln fun _ => .of_same (by rfl)).fireOn ln _ _

/-! ### Answers (R149, R174) -/

/-- A link that takes a request has taken at most three places (R174). -/
theorem placesOf_le_of_room {ln : Link} (hs : RoomsOk s) (h : s.repliesFull ln = false) : placesOf s ln ≤ 3 := by
  obtain ⟨hlinks, -⟩ := (roomsOk_iff s).mp hs
  obtain ⟨-, hreads, -⟩ := hlinks ln
  simp only [State.repliesFull, State.outstanding, Bool.or_eq_false_iff, decide_eq_false_iff_not, Bool.and_eq_false_iff] at h
  obtain ⟨hfew, hmore⟩ := h
  unfold placesOf
  rcases hmore with hmore | hnone
  · omega
  · have hzero : readsOf s ln = 0 := by
      rw [readsOf, List.length_eq_zero_iff, List.filter_eq_nil_iff]
      simpa using hnone
    omega

/-- One more place of one link's reply list is taken. -/
theorem roomsOk_of_place {ln : Link} (hs : RoomsOk s) (h : KeepsRooms s t) (hroom : placesOf s ln ≤ 3)
    (hlinks : ∀ ln', Tidy (t.link ln') → Tidy (u.link ln'))
    (hplaces : ∀ ln', placesOf u ln' ≤ placesOf t ln' + if ln' = ln then 1 else 0)
    (hreads : ∀ ln', readsOf u ln' ≤ 1) (hqueue : u.rst.queue = t.rst.queue) (hoverflow : u.slu.overflow = t.slu.overflow) :
    RoomsOk u := by
  have ht := h.roomsOk hs
  rw [roomsOk_iff] at ht ⊢
  obtain ⟨htl, htq, hto⟩ := ht
  refine ⟨fun ln' => ⟨?_, hreads ln', hlinks ln' (htl ln').2.2⟩, hqueue ▸ htq, hoverflow ▸ hto⟩
  have hp := hplaces ln'
  split at hp
  next heq =>
    have := h.places ln'
    subst heq
    omega
  next => exact hp.trans (htl ln').1

theorem link_reply (s : State) (ln ln' : Link) (r : Reply) :
    (s.reply ln r).link ln' = if ln' = ln then (s.link ln').addReply r else s.link ln' := by
  split
  next heq => subst heq; exact State.link_modLink_same s _ _
  next heq => exact State.link_modLink_ne s _ heq

theorem placesOf_reply (s : State) (ln ln' : Link) (r : Reply) :
    placesOf (s.reply ln r) ln' ≤ placesOf s ln' + if ln' = ln then 1 else 0 := by
  have hreads : readsOf (s.reply ln r) ln' = readsOf s ln' := rfl
  unfold placesOf
  rw [link_reply, hreads]
  split
  · have := replies_addReply (s.link ln') r
    omega
  · exact le_rfl

theorem tidy_reply {ln' : Link} (ln : Link) (r : Reply) (h : Tidy (s.link ln')) : Tidy ((s.reply ln r).link ln') := by
  rw [link_reply]
  split
  · exact tidy_addReply r h
  · exact h

/-- A reply made to a request that the link could take (R174). -/
theorem roomsOk_reply {ln : Link} (hs : RoomsOk s) (hfull : s.repliesFull ln = false) (h : KeepsRooms s t) (r : Reply) :
    RoomsOk (t.reply ln r) := by
  have ht := (roomsOk_iff t).mp (h.roomsOk hs)
  exact roomsOk_of_place hs h (placesOf_le_of_room hs hfull) (fun _ => tidy_reply ln r) (placesOf_reply t ln · r)
    (fun ln' => (ht.1 ln').2.1) rfl rfl

theorem roomsOk_answer {ln : Link} (hs : RoomsOk s) (hfull : s.repliesFull ln = false) (h : KeepsRooms s t) (kind tag : Nat)
    (a : Answer) : RoomsOk (t.answer ln kind tag a) := by
  cases a with
  | reply st parts => exact roomsOk_reply hs hfull h _
  | deferred => exact h.roomsOk hs

theorem readsOf_defer (s : State) (p : PendingRead) (ln : Link) :
    readsOf (s.defer p).1 ln = readsOf s ln + if ln = p.ln then 1 else 0 := by
  have hlist : (s.defer p).1.rst.readList = s.rst.readList ++ [p] := rfl
  simp only [readsOf, hlist, List.filter_append, List.length_append, List.filter_cons, List.filter_nil, beq_iff_eq,
    eq_comm (a := ln)]
  split <;> rfl

/-- A read that joins the read list of a link with nothing outstanding (R149, R174). -/
theorem roomsOk_defer {ln : Link} (hs : RoomsOk s) (hfull : s.repliesFull ln = false) (hout : s.outstanding ln = false)
    (h : KeepsRooms s t) {p : PendingRead} (hp : p.ln = ln) : RoomsOk (t.defer p).1 := by
  have hzero : readsOf s ln = 0 := by
    rw [readsOf, List.length_eq_zero_iff, List.filter_eq_nil_iff]
    simpa [State.outstanding] using hout
  have ht := (roomsOk_iff t).mp (h.roomsOk hs)
  refine roomsOk_of_place hs h (placesOf_le_of_room hs hfull) (fun _ => id) (fun ln' => ?_) (fun ln' => ?_) rfl rfl
  · have hlink : (t.defer p).1.link ln' = t.link ln' := rfl
    rw [placesOf, hlink, readsOf_defer, hp]
    exact (Nat.add_assoc _ _ _).ge
  · rw [readsOf_defer, hp]
    split
    next heq =>
      have := h.reads ln'
      subst heq
      omega
    next => exact (ht.1 ln').2.1

end Sys2Proof.CuttingsProofs
end

section
/-! What the store's reads, the path of a final record and the store controller do to the rooms (R89 to R91, R136, R142 to
R151). -/

namespace Sys2Proof.CuttingsProofs

open Sys2Proof Machine CirculationProofs

variable {s t : State}

/-! ### Reads of the store (R149 to R151) -/

theorem KeepsRooms.fireCorrected (h : KeepsRooms s t) (o : Bool) (area : AreaId) (i : Nat) :
    KeepsRooms s (t.fireCorrected o area i) := .ite (fun _ => h.fire _ _) fun _ => h

theorem KeepsRooms.searchLatest (job : Nat) (l : List (Nat × Slot StrataRec)) :
    ∀ s, KeepsRooms s (searchLatest job l s).1 := by
  induction l with
  | nil => exact .refl
  | cons p l ih =>
    intro s
    unfold Machine.searchLatest
    split
    · dsimp only
      split
      · exact (KeepsRooms.refl s).fireCorrected _ _ _
      · exact ((KeepsRooms.refl s).fireCorrected _ _ _).trans (ih _)
    · exact ih s

theorem KeepsRooms.serve (req : ReadReq) (s : State) : KeepsRooms s (serve req s).1 := by
  cases req with
  | latest job =>
    have h := KeepsRooms.searchLatest job (s.rst.areas.strata.backward s.rst.strataPos) s
    unfold Machine.serve
    dsimp only
    split <;> rename_i heq <;> rw [heq] at h <;> exact h
  | _ => exact (KeepsRooms.refl s).fireCorrected _ _ _

theorem readsOf_of_cons {p : PendingRead} {ps : List PendingRead} (h : s.rst.readList = p :: ps) (ln : Link) :
    readsOf s ln = readsOf (s.modRst fun u => { u with readList := ps }) ln + if ln = p.ln then 1 else 0 := by
  simp only [readsOf, State.modRst_rst, h, List.filter_cons, beq_iff_eq, eq_comm (a := ln)]
  split <;> rfl

/-- A read that is served leaves its place to its reply (R149, R174). -/
theorem KeepsRooms.serveNext {p : PendingRead} {ps : List PendingRead} (hl : s.rst.readList = p :: ps) :
    KeepsRooms s ((s.modRst fun u => { u with readList := ps }).serveOne p) := by
  have hserve := KeepsRooms.serve p.req (s.modRst fun u => { u with readList := ps })
  have hone : (s.modRst fun u => { u with readList := ps }).serveOne p =
      (Machine.serve p.req (s.modRst fun u => { u with readList := ps })).1.reply p.ln _ := rfl
  rw [hone]
  refine ⟨fun ln h => tidy_reply _ _ (hserve.tidy ln h), fun ln => ?_, fun ln => ?_, hserve.queue, hserve.overflow⟩
  · refine (placesOf_reply _ _ ln _).trans ?_
    have hplaces := hserve.places ln
    have hlink : (s.modRst fun u => { u with readList := ps }).link ln = s.link ln := rfl
    have hreads := readsOf_of_cons hl ln
    unfold placesOf at hplaces ⊢
    rw [hlink] at hplaces
    omega
  · exact (hserve.reads ln).trans (Nat.le.intro (readsOf_of_cons hl ln).symm)

theorem KeepsRooms.serveList (l : List PendingRead) : ∀ s : State, s.rst.readList = l → KeepsRooms s (serveList l s) := by
  induction l with
  | nil => exact fun s _ => .refl s
  | cons p ps ih =>
    intro s hl
    refine (KeepsRooms.serveNext hl).trans (ih _ ?_)
    rw [State.serveOne_eq]
    rfl

theorem KeepsRooms.serveReads (h : KeepsRooms s t) : KeepsRooms s t.serveReads := h.trans (.serveList _ t rfl)

theorem KeepsRooms.resumeErase (h : KeepsRooms s t) : KeepsRooms s t.resumeErase := by
  unfold State.resumeErase
  split
  · exact h.modRst rfl
  · exact h

theorem KeepsRooms.serveSuspended (s : State) : KeepsRooms s s.serveSuspended := by
  unfold State.serveSuspended
  split
  next hl => exact (KeepsRooms.serveNext hl).resumeErase
  · exact (KeepsRooms.refl s).resumeErase
  · exact .refl s

theorem KeepsRooms.endSuspension (s : State) : KeepsRooms s s.endSuspension := by
  unfold State.endSuspension
  split
  · exact (KeepsRooms.refl s).serveReads.resumeErase
  · exact .refl s

/-- Reads that leave the list without a reply give their places back (R176). -/
theorem KeepsRooms.dropReads (h : KeepsRooms s t) (keep : PendingRead → Bool) :
    KeepsRooms s (t.modRst fun u => { u with readList := u.readList.filter keep }) := by
  have hreads : ∀ ln, readsOf (t.modRst fun u => { u with readList := u.readList.filter keep }) ln ≤ readsOf t ln :=
    fun ln => (List.filter_sublist.filter _).length_le
  exact h.trans ⟨fun _ => id, fun ln => Nat.add_le_add_left (hreads ln) _, hreads, id, id⟩

theorem KeepsRooms.dropRead (s : State) (ln : Link) : KeepsRooms s (s.dropRead ln) := by
  unfold State.dropRead
  dsimp only
  refine KeepsRooms.resumeErase (.dropReads ?_ _)
  split
  next p _ _ _ => exact .ite (fun _ => .serve p.req s) fun _ => .refl s
  · exact .refl s

/-! ### Offers (R142) -/

theorem length_replaceImage {b : EntryBody} : ∀ {q q' : List Entry}, replaceImage b q = some q' → q'.length = q.length
  | e :: es, q', h => by
    unfold replaceImage at h
    split at h
    · cases h
      rfl
    · obtain ⟨r, hr, rfl⟩ := Option.map_eq_some_iff.mp h
      simp [length_replaceImage hr]

theorem length_replaceQueued {b : EntryBody} {ctl : Ctl} {q q' : List Entry} (h : replaceQueued b ctl q = some q') :
    q'.length = q.length := by
  unfold replaceQueued at h
  split at h
  · cases q with
    | nil => cases h
    | cons e es =>
      obtain ⟨r, hr, rfl⟩ := Option.map_eq_some_iff.mp h
      simp [length_replaceImage hr]
  · exact length_replaceImage h

/-- An offer takes a place of the commit queue only while one is free (R142). -/
theorem length_offer {u : Store} (b : EntryBody) (h : u.queue.length ≤ 12) : (u.offer b).1.queue.length ≤ 12 := by
  unfold Store.offer
  split
  · exact h
  · split
    next q hq =>
      have hsome : replaceQueued b u.ctl u.queue = some q := by
        split at hq
        · exact hq
        · cases hq
      exact (length_replaceQueued hsome).trans_le h
    next =>
      split
      next hroom =>
        rw [List.length_append]
        exact hroom
      next => exact h

/-- A change of the commit queue within its room. -/
theorem KeepsRooms.setQueue (h : KeepsRooms s t) {f : Store → Store} (hreads : (f t.rst).readList = t.rst.readList)
    (hqueue : t.rst.queue.length ≤ 12 → (f t.rst).queue.length ≤ 12) : KeepsRooms s (t.modRst f) := by
  have hread : ∀ ln, readsOf (t.modRst f) ln = readsOf t ln := fun ln => by
    rw [readsOf, State.modRst_rst, hreads]
    rfl
  exact h.trans ⟨fun _ => id, fun ln => Nat.add_le_add_left (hread ln).le _, fun ln => (hread ln).le, hqueue, id⟩

theorem KeepsRooms.offer (h : KeepsRooms s t) (b : EntryBody) : KeepsRooms s (t.offer b).1 := by
  obtain ⟨q, hq, -⟩ := offer_cases t.rst b
  refine KeepsRooms.setQueue (f := fun u => (u.offer b).1) h ?_ (length_offer b)
  simp only [hq]

theorem KeepsRooms.of_offer {u : State} {b : EntryBody} {o : Offer} (h : KeepsRooms s t) (ho : t.offer b = (u, o)) :
    KeepsRooms s u := by
  have := h.offer b
  rwa [ho] at this

/-! ### Records that become final (R89 to R91, R103, R116) -/

theorem KeepsRooms.evalNearFull (h : KeepsRooms s t) : KeepsRooms s t.evalNearFull := .fireLevel h.modLgu _ _ _

theorem KeepsRooms.modParcel (h : KeepsRooms s t) (n : Nat) (f : Parcel → Parcel) : KeepsRooms s (t.modParcel n f) :=
  h.modLgu

theorem KeepsRooms.dropParcel (h : KeepsRooms s t) (n : Nat) : KeepsRooms s (t.dropParcel n) :=
  .evalNearFull h.modLgu

theorem KeepsRooms.dropStrata (h : KeepsRooms s t) (r : StrataRec) : KeepsRooms s (t.dropStrata r) := h.fire _ _

theorem KeepsRooms.compareStratum (h : KeepsRooms s t) (r : StrataRec) : KeepsRooms s (t.compareStratum r) := by
  unfold State.compareStratum
  refine .ite (fun _ => ?_) fun _ => h
  dsimp only
  split
  · split
    · exact h.modSlu rfl
    · exact (h.fire _ _).modSlu rfl
  · exact h.modSlu rfl

theorem KeepsRooms.placeParcel (h : KeepsRooms s t) (r : StrataRec) (o : Offer) : KeepsRooms s (t.placeParcel r o) := by
  cases o with
  | accepted => exact h.dropParcel _
  | full => exact h.modParcel _ _
  | failed => exact (h.dropParcel _).dropStrata r

/-- A change of the overflow within its room (R91). -/
theorem KeepsRooms.setOverflow (h : KeepsRooms s t) {f : StrataUnit → StrataUnit}
    (hroom : t.slu.overflow.length ≤ 4 → (f t.slu).overflow.length ≤ 4) : KeepsRooms s (t.modSlu f) :=
  h.trans ⟨fun _ => id, fun _ => le_rfl, fun _ => le_rfl, id, hroom⟩

theorem KeepsRooms.popOverflow (h : KeepsRooms s t) : KeepsRooms s t.popOverflow :=
  h.setOverflow fun hroom => (List.tail_sublist _).length_le.trans hroom

theorem KeepsRooms.placeLoose (h : KeepsRooms s t) (r : StrataRec) (o : Offer) : KeepsRooms s (t.placeLoose r o) := by
  cases o with
  | accepted => exact h
  | failed => exact h.dropStrata r
  | full =>
    refine .ite (fun hlt => h.setOverflow fun _ => ?_) fun _ => h.dropStrata r
    rw [List.length_append]
    exact hlt

/-! ### Departures (R90, R136, R144 to R148) -/

theorem KeepsRooms.reoffer (l : List Waiting) : ∀ {t : State}, KeepsRooms s t → KeepsRooms s (reoffer l t) := by
  induction l with
  | nil => exact id
  | cons w rest ih =>
    intro t h
    cases w with
    | loose r =>
      unfold Machine.reoffer
      split <;> rename_i hoffer <;> have ho := h.of_offer hoffer
      · exact ih ho.popOverflow
      · exact ho
      · exact ih (ho.popOverflow.dropStrata r)
    | parcel r =>
      unfold Machine.reoffer
      split <;> rename_i hoffer <;> have ho := h.of_offer hoffer
      · exact ih (ho.placeParcel r _)
      · exact ho
      · exact ih (ho.placeParcel r _)

theorem KeepsRooms.endJob (h : KeepsRooms s t) : KeepsRooms s t.endJob := h.modJmu.modRst rfl

theorem KeepsRooms.releaseCheck (h : KeepsRooms s t) : KeepsRooms s t.releaseCheck := by
  unfold State.releaseCheck
  split
  · refine .ite (fun _ => h) fun _ => ?_
    split <;> rename_i hoffer <;> have ho := h.of_offer hoffer
    · exact ho.modJmu
    · exact ho
    · exact (ho.fire _ _).endJob
  · exact h

theorem KeepsRooms.handOn (h : KeepsRooms s t) : KeepsRooms s t.handOn := (h.reoffer _).releaseCheck

theorem KeepsRooms.dropEntry (h : KeepsRooms s t) (b : EntryBody) : KeepsRooms s (t.dropEntry b) := by
  cases b with
  | strata r => exact h.dropStrata r
  | job r => exact (h.fire _ _).endJob
  | settings | rods => exact h

theorem KeepsRooms.work (h : KeepsRooms s t) (e : Entry) : KeepsRooms s (t.work e).1 := by
  unfold State.work
  split
  · exact h.same rfl
  · exact h.same rfl
  · exact KeepsRooms.handOn (.dropEntry (h.setQueue rfl fun hroom => (List.tail_sublist _).length_le.trans hroom) _)

theorem KeepsRooms.takeLoop (fuel : Nat) : ∀ {t : State}, KeepsRooms s t → KeepsRooms s (takeLoop fuel t) := by
  induction fuel with
  | zero => exact id
  | succ fuel ih =>
    intro t h
    unfold Machine.takeLoop
    split
    next e _ _ _ =>
      have hwork := h.work e
      split <;> rename_i heq <;> rw [heq] at hwork
      · exact ih hwork
      · exact hwork
    next => exact h

theorem KeepsRooms.takeHead (h : KeepsRooms s t) : KeepsRooms s t.takeHead := h.takeLoop _

theorem KeepsRooms.finishParcel (h : KeepsRooms s t) (r : StrataRec) : KeepsRooms s (t.finishParcel r) :=
  KeepsRooms.takeHead (.placeParcel (.offer (.compareStratum (h.modParcel _ _).modJmu r) (.strata r)) r _)

theorem KeepsRooms.finishLoose (h : KeepsRooms s t) (r : StrataRec) : KeepsRooms s (t.finishLoose r) :=
  KeepsRooms.takeHead (.placeLoose (.offer (.compareStratum h.modJmu r) (.strata r)) r _)

theorem KeepsRooms.offerImage (h : KeepsRooms s t) (b : EntryBody) : KeepsRooms s (t.offerImage b).1 :=
  (h.offer b).takeHead

/-! ### The ends of writes and erases (R145 to R148) -/

theorem putTarget_readList (u : Store) (e : Entry) (verified : Bool) : (u.putTarget e verified).readList = u.readList := by
  unfold Store.putTarget
  split <;> rfl

/-- The target slot is written, and the queue is one of no more entries. -/
theorem KeepsRooms.putTarget (h : KeepsRooms s t) (e : Entry) (verified : Bool) {q : List Entry} {f : Store → Store}
    (hreads : (f t.rst).readList = (t.rst.putTarget e verified).readList) (hqueue : (f t.rst).queue = q)
    (hlen : t.rst.queue.length ≤ 12 → q.length ≤ 12) : KeepsRooms s (t.modRst f) :=
  h.setQueue (hreads.trans (putTarget_readList _ e verified)) fun hroom => hqueue ▸ hlen hroom

theorem KeepsRooms.writePassed (h : KeepsRooms s t) (e : Entry) : KeepsRooms s (t.writePassed e) := by
  unfold State.writePassed
  dsimp only
  refine KeepsRooms.takeHead (.serveReads ?_)
  have hdone := h.putTarget e true (f := fun u => { u.putTarget e true with queue := u.queue.tail, ctl := .ready })
    rfl rfl fun hroom => (List.tail_sublist _).length_le.trans hroom
  split
  · exact (hdone.reoffer _).endJob
  · exact (hdone.reoffer _).releaseCheck

theorem KeepsRooms.writeFailedOnce (h : KeepsRooms s t) {e e' : Entry} {es : List Entry} (hq : t.rst.queue = e' :: es) :
    KeepsRooms s (t.writeFailedOnce e) := by
  unfold State.writeFailedOnce
  dsimp only
  have hvoid := h.putTarget e false
    (f := fun u =>
      { u.putTarget e false with queue := { e with failures := 1 } :: u.queue.tail, voidCount := u.voidCount + 1 })
    rfl rfl fun hroom => by simpa [hq] using hroom
  have hwork := hvoid.serveReads.work { e with failures := 1 }
  split <;> rename_i heq <;> rw [heq] at hwork
  · exact hwork.takeHead
  · exact hwork

theorem KeepsRooms.failDrops (l : List Entry) : ∀ {t : State}, l.length ≤ 12 → KeepsRooms s t →
    KeepsRooms s (failDrops l t) := by
  induction l with
  | nil => exact fun _ h => h
  | cons e es ih =>
    intro t hl h
    have hes : es.length ≤ 12 := (Nat.le_succ _).trans hl
    exact ih hes (KeepsRooms.handOn (.dropEntry (h.setQueue rfl fun _ => hes) _))

theorem KeepsRooms.writeFailedTwice (s : State) (e : Entry) (hroom : s.rst.queue.length ≤ 12) :
    KeepsRooms s (s.writeFailedTwice e) := by
  unfold State.writeFailedTwice
  dsimp only
  have hfailed := ((KeepsRooms.refl s).putTarget e false
    (f := fun u => { u.putTarget e false with ctl := .failed, voidCount := u.voidCount + 1 })
    rfl (putTarget_queue _ e false) id).fireLevel .storeFailed false true
  exact (KeepsRooms.failDrops _ (hfailed.queue hroom) hfailed).serveReads

/-- The end of a write keeps the rooms (R146 to R148). -/
theorem roomsOk_writeEnds (verified : Bool) (hs : RoomsOk s) : RoomsOk (s.writeEnds verified) := by
  unfold State.writeEnds
  split
  next e _ _ hq =>
    split
    · exact ((KeepsRooms.refl s).writePassed e).roomsOk hs
    · split
      · exact ((KeepsRooms.refl s).writeFailedOnce hq).roomsOk hs
      · exact (KeepsRooms.writeFailedTwice s e hs.2.1).roomsOk hs
  next => exact hs

theorem KeepsRooms.eraseEnds (s : State) : KeepsRooms s s.eraseEnds := by
  unfold State.eraseEnds
  split
  · exact (KeepsRooms.endSuspension s).serveReads.modRst rfl
  · exact .refl s

end Sys2Proof.CuttingsProofs
end

section
/-! What intervals and parcels, depths, connections, strokes, ticks and lines do to the rooms: they fire, and make records
final. -/

namespace Sys2Proof.CuttingsProofs

open Sys2Proof Machine CirculationProofs

variable {s t : State}

/-! ### Parcels and intervals (R81 to R85, R97, R98) -/

theorem KeepsRooms.createParcel (h : KeepsRooms s t) (r : StrataRec) : KeepsRooms s (t.createParcel r) :=
  KeepsRooms.evalNearFull (.modLgu (h.fireEach _ _))

theorem KeepsRooms.parcelFate (h : KeepsRooms s t) (r : StrataRec) : KeepsRooms s (t.parcelFate r) :=
  .ite (fun _ => h.finishLoose _) fun _ => .ite (fun _ => (h.fire _ _).finishLoose _) fun _ => h.createParcel r

theorem KeepsRooms.windowExpiry (h : KeepsRooms s t) : KeepsRooms s t.windowExpiry :=
  h.trans (.foldl (fun u _ => ((KeepsRooms.refl u).fire _ _).finishParcel _) _ t)

theorem KeepsRooms.dueDetection (h : KeepsRooms s t) : KeepsRooms s t.dueDetection :=
  .modLgu (h.trans (.foldl (fun u n => ((KeepsRooms.refl u).modParcel n _).fire _ _) t.reaching t))

theorem KeepsRooms.closeInterval (h : KeepsRooms s t) (iv : OpenInterval) : KeepsRooms s (t.closeInterval iv) := by
  unfold State.closeInterval
  exact .modSlu (.fire (.parcelFate (h.modSlu (by rfl)) _) _ _) rfl

theorem KeepsRooms.closeReached (d fuel : Nat) : ∀ {t : State}, KeepsRooms s t → KeepsRooms s (closeReached d fuel t) := by
  induction fuel with
  | zero => exact id
  | succ fuel ih =>
    intro t h
    unfold Machine.closeReached
    split
    next iv _ => exact .ite (fun _ => ih (.modSlu (h.closeInterval iv) rfl)) fun _ => h
    next => exact h

theorem KeepsRooms.advanceHole (h : KeepsRooms s t) : KeepsRooms s t.advanceHole := by
  unfold State.advanceHole State.reportAdvance State.strataAdvance
  dsimp only
  split
  · exact .closeReached _ _ (.modSlu h.modStr.modJmu rfl)
  · exact h.modStr.modJmu

theorem KeepsRooms.closePartial (h : KeepsRooms s t) : KeepsRooms s t.closePartial := by
  unfold State.closePartial
  split
  · exact .ite (fun _ => h.modSlu rfl) fun _ => .fire (.finishLoose (h.modSlu (by rfl)) _) _ _
  · exact h

/-! ### Depths and string changes (R11 to R17) -/

theorem KeepsRooms.takeDepth (h : KeepsRooms s t) (c : Nat) : KeepsRooms s (t.takeDepth c) := by
  unfold State.takeDepth State.depthValue
  by_cases hc : c ≤ maxDepth
  · rw [if_pos hc]
    exact h.modStr
  · rw [if_neg hc]
    exact h.same rfl

theorem KeepsRooms.holeRule (h : KeepsRooms s t) : KeepsRooms s t.holeRule := .ite (fun _ => h.advanceHole) fun _ => h

theorem KeepsRooms.afterHeight (h : KeepsRooms s t) (before : Nat) : KeepsRooms s (t.afterHeight before) :=
  .ite (fun _ => h) fun _ => .ite (fun _ => (h.takeDepth _).holeRule) fun _ => h

theorem KeepsRooms.rebase (h : KeepsRooms s t) : KeepsRooms s t.rebase := by
  have htaken : KeepsRooms s (if t.str.depth = .reliable then t.takeDepth t.limited else t) :=
    .ite (fun _ => h.takeDepth _) fun _ => h
  unfold State.rebase
  refine .ite (fun _ => ?_) fun _ => htaken
  split
  · exact htaken.modStr
  · exact htaken.advanceHole

theorem KeepsRooms.appendTop (h : KeepsRooms s t) (id : Nat) : KeepsRooms s (t.appendTop id) :=
  .ite (fun _ => h.modStr.modStr) fun _ => h.modStr

/-! ### Connections and slips (R11, R13, R32 to R35) -/

theorem KeepsRooms.setConn (h : KeepsRooms s t) (c : ConnState) : KeepsRooms s (t.setConn c) :=
  KeepsRooms.fireLevel (.fireLevel h.modCxu _ _ _) _ _ _

theorem KeepsRooms.connReleased (h : KeepsRooms s t) : KeepsRooms s t.connReleased := by
  unfold State.connReleased
  split
  case h_4 | h_5 | h_6 => exact h
  all_goals exact h.setConn _

theorem KeepsRooms.connStroke (h : KeepsRooms s t) (p : PumpId) : KeepsRooms s (t.connStroke p) := by
  unfold State.connStroke
  split
  case h_1 | h_2 => exact (h.setConn _).fire _ _
  case h_3 => exact .ite (fun _ => h.fire _ _) fun _ => h
  all_goals exact h

theorem KeepsRooms.slipsSetEdge (h : KeepsRooms s t) : KeepsRooms s t.slipsSetEdge := .fireLevel h.modStr _ _ _

theorem KeepsRooms.compareAtRelease (h : KeepsRooms s t) : KeepsRooms s t.compareAtRelease :=
  .ite (fun _ => (h.takeDepth _).holeRule) fun _ => .fire h.modStr _ _

theorem KeepsRooms.slipsReleasedEdge (h : KeepsRooms s t) : KeepsRooms s t.slipsReleasedEdge := by
  have hreleased : KeepsRooms s ((t.modStr fun u => { u with slips := .released }).fire .slipsSet (.raw false)) :=
    .fire h.modStr _ _
  exact KeepsRooms.connReleased (.ite (fun _ => .ite (fun _ => hreleased.compareAtRelease) fun _ => hreleased) fun _ => h)

/-! ### Circulation (R44 to R56) -/

theorem KeepsRooms.setCirc (h : KeepsRooms s t) (c : CircState) : KeepsRooms s (t.setCirc c) :=
  .ite (fun _ => h) fun _ => h.modCcu.modSlu rfl

theorem KeepsRooms.judgeWindow (h : KeepsRooms s t) : KeepsRooms s t.judgeWindow :=
  .fireLevel (.modCcu (.fireLevel (.modCcu (.setCirc h.modCcu _)) _ _ _)) _ _ _

theorem KeepsRooms.completeWindow (h : KeepsRooms s t) : KeepsRooms s t.completeWindow :=
  .ite (fun _ => h.judgeWindow.modCcu) fun _ => h

theorem KeepsRooms.lift (h : KeepsRooms s t) (inc : Nat) : KeepsRooms s (t.lift inc) :=
  .ite (fun _ => .dueDetection (.windowExpiry (.modLgu h.modCcu))) fun _ => h

theorem KeepsRooms.circStroke (h : KeepsRooms s t) (p : PumpId) : KeepsRooms s (t.circStroke p) := by
  unfold State.circStroke
  dsimp only
  refine KeepsRooms.completeWindow (.modCcu (.lift (.modCcu ?_) _))
  have hcounted : ∀ was, KeepsRooms s ((t.modCcu fun u => u.putPump p (u.pump p).afterStroke).fireLevel .pumpsRunning was true) :=
    fun was => .fireLevel h.modCcu _ _ _
  exact .ite (fun _ => (hcounted _).setCirc _) fun _ => hcounted _

theorem KeepsRooms.stroke (h : KeepsRooms s t) (p : PumpId) : KeepsRooms s (t.stroke p) := (h.circStroke p).connStroke p

theorem KeepsRooms.stopCirculation (h : KeepsRooms s t) : KeepsRooms s t.stopCirculation := by
  unfold State.stopCirculation
  refine .modCcu (.setCirc (.modCcu ?_) _)
  exact .ite (fun _ => h.judgeWindow) fun _ => h

theorem KeepsRooms.afterPumps (h : KeepsRooms s t) (was : Bool) : KeepsRooms s (t.afterPumps was) :=
  .ite (fun _ => .stopCirculation (h.fireLevel _ _ _)) fun _ => h.fireLevel _ _ _

theorem KeepsRooms.pumpStops (h : KeepsRooms s t) (p : PumpId) : KeepsRooms s (t.pumpStops p) :=
  .ite (fun _ => .afterPumps h.modCcu _) fun _ => h

theorem KeepsRooms.timeTick (h : KeepsRooms s t) : KeepsRooms s t.timeTick := by
  have hcount : KeepsRooms s t.countTick := .ite (fun _ => h.same rfl) fun _ => h.same rfl
  have hmeter : ∀ {u}, KeepsRooms s u → KeepsRooms s u.meterSecond := fun hu =>
    .ite (fun _ => .ite (fun _ => hu.modJmu.modSlu rfl) fun _ => hu.modJmu) fun _ => hu
  exact KeepsRooms.afterPumps (.modCcu (hmeter hcount.timeTo)) _

/-! ### Lines (R161 to R166) -/

theorem KeepsRooms.acceptedChange (h : KeepsRooms s t) (fn : LineFn) (active : Bool) :
    KeepsRooms s (t.acceptedChange fn active) := by
  have hedge : ∀ p, KeepsRooms s (t.strokeEdge p) := fun p => .ite (fun _ => h.modFlu) fun _ => .stroke h.modFlu p
  cases fn with
  | stroke1 => exact .ite (fun _ => hedge .one) fun _ => h
  | stroke2 => exact .ite (fun _ => hedge .two) fun _ => h
  | returnFlow => exact .ite (fun _ => h.modCcu) fun _ => h
  | slips => exact .ite (fun _ => h.slipsSetEdge) fun _ => h.slipsReleasedEdge
  | _ => exact h

theorem KeepsRooms.lineExpiry (h : KeepsRooms s t) (i : Fin 12) : KeepsRooms s (t.lineExpiry i) := by
  have hlevel : KeepsRooms s (t.takeLevel i) := h.modFlu
  unfold State.lineExpiry
  dsimp only
  split
  · exact .ite (fun _ => hlevel.slipsSetEdge) fun _ => hlevel
  · exact .ite (fun _ => h) fun _ => hlevel.acceptedChange _ _

theorem KeepsRooms.encoderPair (h : KeepsRooms s t) (pair : Bool × Bool) : KeepsRooms s (t.encoderPair pair) := by
  unfold State.encoderPair
  dsimp only
  split
  · exact h.modFlu
  · exact .ite (fun _ => h.modFlu) fun _ => .ite (fun _ => .fireLevel h.modFlu.modFlu.modStr _ _ _) fun _ =>
      .afterHeight h.modFlu.modFlu _

theorem KeepsRooms.encoderExpiry (h : KeepsRooms s t) (i : Fin 12) : KeepsRooms s (t.encoderExpiry i) := by
  have hlevel : KeepsRooms s (t.takeLevel i) := h.modFlu
  refine .ite (fun _ => ?_) fun _ => h
  have hboth : ∀ (c : Prop) [Decidable c] (j : Fin 12),
      KeepsRooms s (if c then (t.takeLevel i).takeLevel j else t.takeLevel i) :=
    fun c _ j => .ite (fun _ => hlevel.modFlu) fun _ => hlevel
  split
  · exact (hboth _ _).encoderPair _
  · exact hboth _ _

theorem KeepsRooms.filterExpiry (h : KeepsRooms s t) (i : Fin 12) : KeepsRooms s (t.filterExpiry i) :=
  .ite (fun _ => .ite (fun _ => .encoderExpiry h.timeTo i) fun _ => .lineExpiry h.timeTo i) fun _ => h

theorem KeepsRooms.pinChange (h : KeepsRooms s t) (i : Fin 12) (high : Bool) : KeepsRooms s (t.pinChange i high) :=
  .ite (fun _ => h) fun _ => h.modFlu

theorem KeepsRooms.changeFunction (h : KeepsRooms s t) (i : Fin 12) (cfg : LineCfg) :
    KeepsRooms s (t.changeFunction i cfg) := by
  unfold State.changeFunction
  dsimp only
  refine .ite (fun _ => .modFlu (.modFlu ?_)) fun _ => .modFlu ?_
  all_goals
    refine .ite (fun _ => .slipsReleasedEdge ?_) fun _ => ?_
    all_goals
      refine .ite (fun _ => .modFlu ?_) fun _ => ?_
      all_goals exact .ite (fun _ => h.modFlu.modFlu) fun _ => .ite (fun _ => h.modFlu.modFlu) fun _ => h.modFlu

end Sys2Proof.CuttingsProofs
end

section
/-! What the owners of the requests do to the rooms, and every step (R173 to R175). -/

namespace Sys2Proof.CuttingsProofs

open Sys2Proof Machine CirculationProofs

variable {s t : State}

/-! ### Requests that answer with a status -/

section
variable {c : Prop} [Decidable c] {st : Status} {r : State × Answer}

/-- A check that refuses changes nothing. -/
theorem KeepsRooms.refused (h : ¬ c → KeepsRooms s r.1) : KeepsRooms s (if c then say st s else r).1 := by
  split
  next => exact .refl s
  next hc => exact h hc

/-- A condition of acceptance without which nothing changes. -/
theorem KeepsRooms.accepted (h : c → KeepsRooms s r.1) : KeepsRooms s (if c then r else say st s).1 := by
  split
  next hc => exact h hc
  next => exact .refl s

/-- An accepted request answered with a status alone. -/
theorem KeepsRooms.said (h : KeepsRooms s t) : KeepsRooms s (say st t).1 := h

end

theorem KeepsRooms.mark (h : KeepsRooms s t) (f : Marks → Marks) : KeepsRooms s (t.mark f) := by
  unfold State.mark
  exact .fireLevel (h.modRst (by rfl)) _ _ _

/-! ### Rods and strings (R1 to R20) -/

theorem keepsRooms_setRodClass (cls : Nat) (defined : Bool) (thread cap torque : Nat) (s : State) :
    KeepsRooms s (ownSetRodClass cls defined thread cap torque s).1 := by
  unfold ownSetRodClass
  refine .refused fun _ => .refused fun _ => .refused fun _ => ?_
  split
  · exact .said (.mark (KeepsRooms.refl s).modStr _)
  · exact .said (KeepsRooms.refl s).modStr

theorem keepsRooms_registerRod (rod cls len : Nat) (s : State) : KeepsRooms s (ownRegisterRod rod cls len s).1 :=
  .refused fun _ => .refused fun _ => .refused fun _ => .refused fun _ => .said (KeepsRooms.refl s).modStr

/-- A request about one registered rod. -/
theorem keepsRooms_rod (s : State) (rod : Nat) {f : Rod → State × Answer} (h : ∀ r, KeepsRooms s (f r).1) :
    KeepsRooms s (match findRod s.str.rods rod with | none => say .notFound s | some r => f r).1 := by
  split
  · exact .refl s
  · exact h _

theorem keepsRooms_layDownRod (rod : Nat) (s : State) : KeepsRooms s (ownLayDownRod rod s).1 :=
  keepsRooms_rod s rod fun _ => .accepted fun _ => .said (KeepsRooms.refl s).modStr

theorem keepsRooms_restoreRod (rod : Nat) (s : State) : KeepsRooms s (ownRestoreRod rod s).1 :=
  keepsRooms_rod s rod fun _ => .accepted fun _ => .said (KeepsRooms.refl s).modStr

theorem keepsRooms_retireRod (rod : Nat) (s : State) : KeepsRooms s (ownRetireRod rod s).1 :=
  keepsRooms_rod s rod fun _ => .accepted fun _ => .said (KeepsRooms.refl s).modStr

theorem keepsRooms_setBha (len cap thread : Nat) (s : State) : KeepsRooms s (ownSetBha len cap thread s).1 :=
  .refused fun _ => .refused fun _ => .refused fun _ => .said (KeepsRooms.refl s).modStr.rebase

theorem keepsRooms_setBlockHeight (height : Nat) (s : State) : KeepsRooms s (ownSetBlockHeight height s).1 := by
  unfold ownSetBlockHeight State.setHeight
  refine .said (.ite (fun _ => .advanceHole ?_) fun _ => ?_)
  all_goals exact .takeDepth (.fireLevel (KeepsRooms.refl s).modStr.modStr _ _ _) _

theorem keepsRooms_declareString (len cap thread : Nat) (runs : List (Nat × Nat)) (s : State) :
    KeepsRooms s (ownDeclareString len cap thread runs s).1 := by
  unfold ownDeclareString
  split
  · exact .refl s
  · exact .refl s
  · exact .refused fun _ => .refused fun _ => .refused fun _ => .refused fun _ => .refused fun _ => .refused fun _ =>
      .refused fun _ => .refused fun _ => .said (KeepsRooms.refl s).modStr.rebase

theorem KeepsRooms.countLost (h : KeepsRooms s t) (lost : List Nat) : KeepsRooms s (t.countLost lost) := by
  unfold State.countLost
  split
  · exact h.modJmu
  · exact h

theorem keepsRooms_declareParted (k : Nat) (s : State) : KeepsRooms s (ownDeclareParted k s).1 := by
  refine .refused fun _ => ?_
  split
  · exact .refl s
  · exact .refused fun _ => .said (.modStr (.modStr (.countLost (KeepsRooms.refl s).modStr _)))

/-- A read answered at once (R20, R93). -/
theorem keepsRooms_read (s : State) {c : Prop} [Decidable c] (bytes : List Byte) :
    KeepsRooms s (if c then tell bytes s else say .badValue s).1 := .accepted fun _ => .refl s

theorem keepsRooms_readRod (rod : Nat) (s : State) : KeepsRooms s (ownReadRod rod s).1 := by
  refine .accepted fun _ => ?_
  split <;> exact .refl s

/-! ### Connections (R23 to R38) -/

theorem KeepsRooms.putHandled (h : KeepsRooms s t) (st : RodState) : KeepsRooms s (t.putHandled st) := by
  unfold State.putHandled
  split
  · exact h.modStr
  · exact h

theorem KeepsRooms.joinHandled (h : KeepsRooms s t) : KeepsRooms s t.joinHandled := by
  unfold State.joinHandled
  split
  · exact h.appendTop _
  · exact h

theorem KeepsRooms.takeTop (h : KeepsRooms s t) : KeepsRooms s t.takeTop := by
  unfold State.takeTop
  split
  · exact h.modStr.modCxu
  · exact h

theorem KeepsRooms.resolveRod (h : KeepsRooms s t) (r : Resolution) : KeepsRooms s (t.resolveRod r) := by
  cases r with
  | keep => exact h.joinHandled
  | restore => exact h
  | ret | layDown => exact h.putHandled _

/-- The end of a sequence or a fault: no rod in handling, FREE, and a completion written (R31). -/
theorem KeepsRooms.completed (h : KeepsRooms s t) (kind : CompletionKind) (rod torque : Option Nat)
    (resolution : Option Resolution) :
    KeepsRooms s (((t.setHandling none).setConn .free).complete kind rod torque resolution) :=
  .modCxu (.setConn h.modCxu _)

theorem keepsRooms_pick (rod : Nat) (s : State) : KeepsRooms s (ownPick rod s).1 := by
  refine .refused fun _ => ?_
  split
  · exact .refl s
  · exact .said (.setConn (KeepsRooms.refl s).modStr.modCxu _)

theorem keepsRooms_stab (s : State) : KeepsRooms s (ownStab s).1 := .accepted fun _ => .said ((KeepsRooms.refl s).setConn _)

theorem keepsRooms_madeUp (torque : Nat) (s : State) : KeepsRooms s (ownMadeUp torque s).1 :=
  .refused fun _ => .refused fun _ => .said ((KeepsRooms.refl s).joinHandled.completed _ _ _ _)

theorem keepsRooms_abortAdd (s : State) : KeepsRooms s (ownAbortAdd s).1 :=
  .accepted fun _ => .said (.setConn ((KeepsRooms.refl s).putHandled _).modCxu _)

theorem keepsRooms_breakOut (s : State) : KeepsRooms s (ownBreakOut s).1 :=
  .refused fun _ => .refused fun _ => .refused fun _ => .refused fun _ => .said ((KeepsRooms.refl s).setConn _)

theorem keepsRooms_broken (s : State) : KeepsRooms s (ownBroken s).1 :=
  .refused fun _ => .refused fun _ => .said ((KeepsRooms.refl s).takeTop.setConn _)

theorem keepsRooms_racked (s : State) : KeepsRooms s (ownRacked s).1 :=
  .accepted fun _ => .said (((KeepsRooms.refl s).putHandled _).completed _ _ _ _)

theorem keepsRooms_laidDown (s : State) : KeepsRooms s (ownLaidDown s).1 :=
  .accepted fun _ => .said (((KeepsRooms.refl s).putHandled _).completed _ _ _ _)

theorem keepsRooms_acknowledgeFault (resolution : Nat) (s : State) :
    KeepsRooms s (ownAcknowledgeFault resolution s).1 := by
  unfold ownAcknowledgeFault
  split
  · split
    · exact .accepted fun _ => .said (((KeepsRooms.refl s).resolveRod _).completed _ _ _ _)
    · exact .refl s
  · exact .refl s

/-! ### Settings (R43, R51, R62, R79, R96, R100, R126, R160, R166) -/

theorem keepsRooms_setPump (pump disp eff timeout : Nat) (s : State) :
    KeepsRooms s (ownSetPump pump disp eff timeout s).1 := by
  unfold ownSetPump
  split
  · exact .refl s
  · exact .said (.ite (fun _ => .mark (KeepsRooms.refl s).modCcu _) fun _ => (KeepsRooms.refl s).modCcu)

theorem keepsRooms_setHoleSections (sections : List (Nat × Nat)) (surface : Nat) (s : State) :
    KeepsRooms s (ownSetHoleSections sections surface s).1 :=
  .refused fun _ => .refused fun _ => .refused fun _ => .said (.mark (KeepsRooms.refl s).modLgu _)

theorem keepsRooms_setLithologyTable (entries : List (Nat × Nat)) (s : State) :
    KeepsRooms s (ownSetLithologyTable entries s).1 :=
  .refused fun _ => .refused fun _ => .refused fun _ => .said ((KeepsRooms.refl s).modSlu rfl)

theorem keepsRooms_setTariffs (table : Tariff) (drillHold tripHold : Nat) (s : State) :
    KeepsRooms s (ownSetTariffs table drillHold tripHold s).1 := by
  unfold ownSetTariffs
  split
  · exact .refl s
  · exact .refused fun _ => .refused fun _ => .refused fun _ => .said (.mark (KeepsRooms.refl s).modJmu _)

theorem keepsRooms_setLineFunction (line function polarity filter : Nat) (s : State) :
    KeepsRooms s (ownSetLineFunction line function polarity filter s).1 := by
  unfold ownSetLineFunction
  split
  · dsimp only
    split
    · exact .refused fun _ => .refused fun _ => .refused fun _ => .said ((KeepsRooms.refl s).changeFunction _ _)
    · exact .refl s
  · exact .refl s

theorem keepsRooms_driveGeneralOutput (line level : Nat) (s : State) :
    KeepsRooms s (ownDriveGeneralOutput line level s).1 := by
  unfold ownDriveGeneralOutput
  split
  · split
    · exact .accepted fun _ => .said (KeepsRooms.refl s).modFlu
    · exact .refl s
  · exact .refl s

/-! ### Samples, strikes and notes (R87, R101, R102) -/

theorem keepsRooms_logSample (interval code : Nat) (colour : Option Nat) (notes : List Nat) (s : State) :
    KeepsRooms s (ownLogSample interval code colour notes s).1 := by
  refine .refused fun _ => ?_
  split
  · exact .refl s
  · refine .refused fun _ => .refused fun _ => ?_
    split
    · exact .refl s
    · split
      · exact .refl s
      · exact .refl s
      · exact .refused fun _ => .said ((KeepsRooms.refl s).finishParcel _)

theorem KeepsRooms.writeStrike {depth : Nat} (h : s.writeStrike depth = some t) : KeepsRooms s t := by
  unfold State.writeStrike at h
  split at h
  · cases h
    exact (KeepsRooms.refl s).modSlu rfl
  · split at h
    · cases h
      exact (KeepsRooms.refl s).modParcel _ _
    · cases h

theorem keepsRooms_reportWaterStrike (depth : Nat) (s : State) : KeepsRooms s (ownReportWaterStrike depth s).1 := by
  unfold ownReportWaterStrike
  split
  · exact .refl s
  · refine .refused fun _ => .refused fun _ => ?_
    split
    next t ht => exact .said ((KeepsRooms.writeStrike ht).fire _ _)
    next => exact .refl s

theorem keepsRooms_addNote (interval note : Nat) (s : State) : KeepsRooms s (ownAddNote interval note s).1 := by
  refine .refused fun _ => ?_
  split
  · exact .refl s
  · split
    · exact .refl s
    · refine .refused fun _ => ?_
      split
      · split
        · exact .said ((KeepsRooms.refl s).modSlu rfl)
        · exact .refl s
      · split
        · split
          · exact .said ((KeepsRooms.refl s).modParcel _ _)
          · exact .refl s
        · exact .refl s

/-! ### The job (R113, R114, R118, R130 to R136) -/

theorem keepsRooms_downtimeStart (kind : Nat) (s : State) : KeepsRooms s (ownDowntimeStart kind s).1 := by
  unfold ownDowntimeStart
  split
  · exact .refl s
  · split
    · exact .refl s
    · exact .said (KeepsRooms.refl s).modJmu

theorem keepsRooms_downtimeEnd (s : State) : KeepsRooms s (ownDowntimeEnd s).1 := by
  unfold ownDowntimeEnd
  split
  · exact .refl s
  · exact .said (KeepsRooms.refl s).modJmu

theorem keepsRooms_statement (s : State) : KeepsRooms s (ownStatement s).1 := by
  unfold ownStatement
  split <;> exact .refl s

/-- Job Open empties the overflow (R133). -/
theorem KeepsRooms.openJob (s : State) (ident : JobIdent) : KeepsRooms s (s.openJob ident) := by
  have hqueue : KeepsRooms s ((s.modStr fun u => { u with hole := ident.start }).modCcu CircUnit.openJob).emptyQueue :=
    .fireLevel (.modLgu (KeepsRooms.refl s).modStr.modCcu) _ _ _
  unfold State.openJob
  refine .setQueue (.modJmu (hqueue.setOverflow fun _ => ?_)) rfl id
  exact Nat.zero_le _

theorem keepsRooms_jobOpen (job client start : Nat) (s : State) : KeepsRooms s (ownJobOpen job client start s).1 := by
  unfold ownJobOpen
  split
  · exact .refl s
  · exact .refl s
  · exact .refused fun _ => .refused fun _ => .refused fun _ => .said (.openJob s _)

theorem KeepsRooms.closeRecords (h : KeepsRooms s t) : KeepsRooms s t.closeRecords := by
  have hfinish : ∀ u (r : StrataRec), KeepsRooms u (u.finishParcel (r.unsampled .unsampledAtClose)) :=
    fun u _ => (KeepsRooms.refl u).finishParcel _
  unfold State.closeRecords
  exact h.closePartial.trans (.foldl hfinish _ _)

theorem keepsRooms_jobClose (s : State) : KeepsRooms s (ownJobClose s).1 := by
  unfold ownJobClose
  split
  · exact .refl s
  · exact .refl s
  · exact .said (.takeHead (.releaseCheck (KeepsRooms.refl s).closeRecords.modCcu.modJmu.modJmu))

/-! ### Images and links (R6, R143, R173, R176, R181, R182) -/

theorem keepsRooms_saveSettings (s : State) : KeepsRooms s (ownSaveSettings s).1 :=
  .refused fun _ => (KeepsRooms.refl s).offerImage _

theorem keepsRooms_linkReset (ln : Link) (s : State) : KeepsRooms s (ownLinkReset ln s).1 :=
  .said ((KeepsRooms.dropRead s ln).modLink ln .reset)

theorem keepsRooms_setNoticeMasks (ln : Link) (conds : List Nat) (latch : Bool) (s : State) :
    KeepsRooms s (ownSetNoticeMasks ln conds latch s).1 := by
  unfold ownSetNoticeMasks
  split
  · exact .said ((KeepsRooms.refl s).modLink ln fun l => .setMasks l _ _ _)
  · exact .refl s

theorem keepsRooms_clearNotices (ln : Link) (conds : List Nat) (s : State) :
    KeepsRooms s (ownClearNotices ln conds s).1 := by
  unfold ownClearNotices
  split
  · exact .said ((KeepsRooms.refl s).modLink ln fun l => .clearLatches l _)
  · exact .refl s

/-! ### Every request -/

/-- What the owner of a request on a link leaves for its answer: the rooms as they were, or, unless it is a Link Reset, a read
of the link more in the store's list (R149, R173). -/
inductive Owned (ln : Link) (k : Kind) (s : State) (r : State × Answer) : Prop where
  | answered (h : KeepsRooms s r.1)
  | deferred {t : State} {p : PendingRead} (hk : k ≠ .linkReset) (h : KeepsRooms s t) (hp : p.ln = ln) (hr : r = t.defer p)

/-- A store read is answered at once by a controller at rest, and deferred by one at work (R149, R150). -/
theorem owned_takeRead {k : Kind} (hk : k ≠ .linkReset) (ln : Link) (tag : Nat) (req : ReadReq) (s : State) :
    Owned ln k s (takeRead ln tag req s) := by
  unfold takeRead
  split
  · exact .answered (.serve req s)
  · exact .answered (.serve req s)
  · split
    · exact .deferred hk ((KeepsRooms.refl s).modRst (by rfl)) rfl rfl
    · exact .deferred hk (.refl s) rfl rfl
  · exact .deferred hk (.refl s) rfl rfl
  · exact .deferred hk (.refl s) rfl rfl

theorem owned_storeRead {k : Kind} (hk : k ≠ .linkReset) {c : Prop} [Decidable c] (ln : Link) (tag : Nat) (req : ReadReq)
    (s : State) : Owned ln k s (if c then takeRead ln tag req s else say .badValue s) := by
  split
  · exact owned_takeRead hk ln tag req s
  · exact .answered (.refl s)

theorem owned_owner {i : Instr} {ln : Link} {tag : Nat} {k : Kind} {body : List Byte}
    (h : encodeRequest i = some (ln, tag, k, body)) (s : State) : Owned ln k s (owner i s) := by
  cases i with
  | readStrata | readStrataLatest | readJob | readSettingsImage | readRodsImage =>
    cases h
    exact owned_storeRead (by decide) _ _ _ s
  | setRodClass => exact .answered (keepsRooms_setRodClass _ _ _ _ _ s)
  | registerRod => exact .answered (keepsRooms_registerRod _ _ _ s)
  | layDownRod => exact .answered (keepsRooms_layDownRod _ s)
  | restoreRod => exact .answered (keepsRooms_restoreRod _ s)
  | retireRod => exact .answered (keepsRooms_retireRod _ s)
  | saveRods => exact .answered ((KeepsRooms.refl s).offerImage _)
  | setBha => exact .answered (keepsRooms_setBha _ _ _ s)
  | setDepthLimits => exact .answered (.said (KeepsRooms.refl s).modStr)
  | setBlockHeight => exact .answered (keepsRooms_setBlockHeight _ s)
  | declareString => exact .answered (keepsRooms_declareString _ _ _ _ s)
  | declareParted => exact .answered (keepsRooms_declareParted _ s)
  | readStringList => exact .answered (keepsRooms_read s _)
  | readRod => exact .answered (keepsRooms_readRod _ s)
  | readRodTable => exact .answered (keepsRooms_read s _)
  | pick => exact .answered (keepsRooms_pick _ s)
  | stab => exact .answered (keepsRooms_stab s)
  | madeUp => exact .answered (keepsRooms_madeUp _ s)
  | abortAdd => exact .answered (keepsRooms_abortAdd s)
  | breakOut => exact .answered (keepsRooms_breakOut s)
  | broken => exact .answered (keepsRooms_broken s)
  | racked => exact .answered (keepsRooms_racked s)
  | laidDown => exact .answered (keepsRooms_laidDown s)
  | acknowledgeFault => exact .answered (keepsRooms_acknowledgeFault _ s)
  | setPump => exact .answered (keepsRooms_setPump _ _ _ _ s)
  | setCirculationLimits => exact .answered (.accepted fun _ => .said (KeepsRooms.refl s).modCcu)
  | setHoleSections => exact .answered (keepsRooms_setHoleSections _ _ s)
  | setSampleWindow => exact .answered (.said (KeepsRooms.refl s).modLgu.evalNearFull)
  | logSample => exact .answered (keepsRooms_logSample _ _ _ _ s)
  | readCuttingsQueue => exact .answered (keepsRooms_read s _)
  | setIntervalStep => exact .answered (.said ((KeepsRooms.refl s).modSlu rfl))
  | setLithologyTable => exact .answered (keepsRooms_setLithologyTable _ s)
  | reportWaterStrike => exact .answered (keepsRooms_reportWaterStrike _ s)
  | addNote => exact .answered (keepsRooms_addNote _ _ s)
  | downtimeStart => exact .answered (keepsRooms_downtimeStart _ s)
  | downtimeEnd => exact .answered (keepsRooms_downtimeEnd s)
  | mixReport => exact .answered (.refused fun _ => .refused fun _ => .said (KeepsRooms.refl s).modJmu)
  | setTariffs => exact .answered (keepsRooms_setTariffs _ _ _ s)
  | statement => exact .answered (keepsRooms_statement s)
  | jobOpen => exact .answered (keepsRooms_jobOpen _ _ _ s)
  | jobClose => exact .answered (keepsRooms_jobClose s)
  | saveSettings => exact .answered (keepsRooms_saveSettings s)
  | setLineFunction => exact .answered (keepsRooms_setLineFunction _ _ _ _ s)
  | driveGeneralOutput => exact .answered (keepsRooms_driveGeneralOutput _ _ s)
  | linkReset => exact .answered (keepsRooms_linkReset _ s)
  | clearLock => exact .answered (.said ((KeepsRooms.refl s).modLink _ fun _ => .of_same (by rfl)))
  | setNoticeMasks => exact .answered (keepsRooms_setNoticeMasks _ _ _ s)
  | clearNotices => exact .answered (keepsRooms_clearNotices _ _ s)
  | _ => exact .answered (.refl s)

/-! ### Request taking (R173) -/

section
variable {ln : Link} (hs : RoomsOk s) (hfull : s.repliesFull ln = false)
include hs hfull

theorem roomsOk_sayOn (kind tag : Nat) (st : Status) : RoomsOk (s.sayOn ln kind tag st) :=
  roomsOk_reply hs hfull (.refl s) _

/-- The owner's effect and its answer, if there is one yet. -/
theorem roomsOk_owned {k : Kind} {r : State × Answer} (h : Owned ln k s r) (hout : k ≠ .linkReset → s.outstanding ln = false)
    (kind tag : Nat) : RoomsOk (r.1.answer ln kind tag r.2) := by
  cases h with
  | answered h => exact roomsOk_answer hs hfull h kind tag r.2
  | deferred hk h hp hr =>
    subst hr
    exact roomsOk_defer hs hfull (hout hk) h hp

end

theorem roomsOk_takeRequest {ln : Link} {k : Kind} {own : State → State × Answer} (hs : RoomsOk s)
    (hown : Owned ln k s (own s)) (tag : Nat) (lengthOk : Bool) : RoomsOk (s.takeRequest ln tag k lengthOk own) := by
  unfold State.takeRequest
  split
  · exact ((KeepsRooms.refl s).discardFrame ln _).roomsOk hs
  next hfull =>
    rw [Bool.not_eq_true] at hfull
    split
    next hk => exact roomsOk_owned hs hfull hown (fun hne => absurd hk hne) _ _
    split
    · exact roomsOk_sayOn hs hfull _ _ _
    next hout =>
      rw [Bool.not_eq_true] at hout
      split
      · exact roomsOk_sayOn hs hfull _ _ _
      split
      · exact roomsOk_reply hs hfull ((KeepsRooms.refl s).modLink ln fun _ => .of_same (by rfl)) _
      split
      · exact roomsOk_sayOn hs hfull _ _ _
      · exact roomsOk_owned hs hfull hown (fun _ => hout) _ _

/-- The request read from a frame is one of the frame's link, tag and kind. -/
theorem encodeRequest_decodeRequest (ln : Link) (tag : Nat) (k : Kind) (body : List Byte) :
    ∃ body', encodeRequest (decodeRequest ln tag k body) = some (ln, tag, k, body') := by
  cases k <;> exact ⟨_, rfl⟩

theorem roomsOk_takeFrame (hs : RoomsOk s) (ln : Link) (kind tag : Nat) (body : List Byte) :
    RoomsOk (s.takeFrame ln kind tag body) := by
  unfold State.takeFrame
  split
  next k _ =>
    obtain ⟨_, henc⟩ := encodeRequest_decodeRequest ln tag k body
    exact roomsOk_takeRequest hs (owned_owner henc s) tag _
  next =>
    unfold State.takeUnknown
    split
    · exact ((KeepsRooms.refl s).discardFrame ln _).roomsOk hs
    next hfull =>
      rw [Bool.not_eq_true] at hfull
      split <;> exact roomsOk_sayOn hs hfull _ _ _

/-! ### Bytes (R170, R171) -/

theorem KeepsRooms.receiver (h : KeepsRooms s t) (ln : Link) (rx : Receiver) :
    KeepsRooms s (t.modLink ln fun l => { l with rx }) := h.modLink ln fun _ => .of_same (by rfl)

theorem roomsOk_collect (hs : RoomsOk s) (ln : Link) (bytes : List Byte) : RoomsOk (s.collect ln bytes) := by
  unfold State.collect
  split
  · split
    · exact ((KeepsRooms.refl s).discardFrame ln _).roomsOk hs
    split
    · exact ((KeepsRooms.refl s).receiver ln _).roomsOk hs
    split
    · exact ((KeepsRooms.refl s).discardFrame ln _).roomsOk hs
    have hhunting := ((KeepsRooms.refl s).receiver ln .hunting).roomsOk hs
    dsimp only
    split
    · exact roomsOk_takeFrame hhunting ln _ _ _
    · exact hhunting
  · exact hs

theorem KeepsRooms.hunt (h : KeepsRooms s t) (ln : Link) (b : Byte) : KeepsRooms s (t.hunt ln b) :=
  .ite (fun _ => h.receiver ln _) fun _ => h

theorem roomsOk_receive (hs : RoomsOk s) (ln : Link) (b : Byte) : RoomsOk (s.receive ln b) := by
  unfold State.receive
  split
  · exact ((KeepsRooms.refl s).hunt ln b).roomsOk hs
  · split
    · exact (((KeepsRooms.refl s).discardFrame ln _).hunt ln b).roomsOk hs
    · exact roomsOk_collect hs ln _

/-! ### Power (R141, R154, R185) -/

theorem KeepsRooms.cold (s : State) (st : Straps) (a : Areas) : KeepsRooms s (s.cold st a) :=
  .of_empty (fun ln => by cases ln <;> exact ⟨rfl, rfl⟩) rfl rfl rfl

theorem KeepsRooms.dark (s : State) (torn : TornWrite) : KeepsRooms s (s.dark torn) :=
  .of_empty (fun ln => by cases ln <;> exact ⟨rfl, rfl⟩) rfl rfl rfl

/-! ### Commands and steps -/

theorem roomsOk_ite {c : Prop} [Decidable c] (hs : RoomsOk s) (ht : RoomsOk t) : RoomsOk (if c then t else s) := by
  split
  · exact ht
  · exact hs

theorem roomsOk_request {i : Instr} {ln : Link} {tag : Nat} {k : Kind} {body : List Byte}
    (henc : encodeRequest i = some (ln, tag, k, body)) (hs : RoomsOk s) (h : exec i s = .next t) : RoomsOk t := by
  rw [exec_request henc] at h
  cases h
  exact roomsOk_ite hs (roomsOk_takeRequest hs (owned_owner henc s) tag true)

/-- Every command keeps the rooms. -/
theorem roomsOk_exec {i : Instr} (hs : RoomsOk s) (h : exec i s = .next t) : RoomsOk t := by
  have hrefl := KeepsRooms.refl s
  cases i with
  | coldStart straps torn decay => cases h; exact (KeepsRooms.cold s straps _).roomsOk hs
  | powerLoss torn => cases h; exact (KeepsRooms.dark s torn).roomsOk hs
  | startupLoadComplete => cases h; exact roomsOk_ite hs ((hrefl.same rfl).roomsOk hs)
  | timeBaseTick => cases h; exact roomsOk_ite hs (hrefl.timeTick.roomsOk hs)
  | pumpTimeout pump => cases h; exact roomsOk_ite hs ((hrefl.pumpStops pump).roomsOk hs)
  | pinLevelChange line high after =>
    cases h
    exact KeepsRooms.roomsOk (.ite (fun _ => hrefl.passTime.pinChange line high) fun _ => hrefl.modFlu) hs
  | inputFilterExpiry line => cases h; exact roomsOk_ite hs ((hrefl.filterExpiry line).roomsOk hs)
  | windowCompletion => cases h; exact roomsOk_ite hs (hrefl.completeWindow.roomsOk hs)
  | dueDetection => cases h; exact roomsOk_ite hs (roomsOk_ite hs (hrefl.dueDetection.roomsOk hs))
  | windowExpiry => cases h; exact roomsOk_ite hs (roomsOk_ite hs (hrefl.windowExpiry.roomsOk hs))
  | interByteTimeout ln =>
    cases h
    refine roomsOk_ite hs ?_
    dsimp only
    split
    · exact hs
    · exact (hrefl.timeTo.discardFrame ln _).roomsOk hs
  | frameDiscard ln cause => cases h; exact roomsOk_ite hs ((hrefl.discardFrame ln cause).roomsOk hs)
  | unknownKind ln tag kind => cases h; exact roomsOk_ite hs (roomsOk_takeFrame hs ln kind tag [])
  | transmissionEnd ln => cases h; exact roomsOk_ite hs ((hrefl.modLink ln .transmissionEnd).roomsOk hs)
  | eraseComplete after =>
    cases h
    exact roomsOk_ite hs ((hrefl.passTime.trans (.eraseEnds _)).roomsOk hs)
  | writeComplete verified after => cases h; exact roomsOk_ite hs (roomsOk_writeEnds verified (hrefl.passTime.roomsOk hs))
  | byteArrival ln byte after =>
    cases h
    have htime : RoomsOk (s.passTime after) := hrefl.passTime.roomsOk hs
    exact roomsOk_ite hs (roomsOk_ite htime (roomsOk_receive htime ln byte))
  | _ => exact roomsOk_request rfl hs h

/-- Settles O55: every command composes operations under which links stay in order and take no new place of their reply lists
(`KeepsRooms`), and a request that is taken has a place left for its reply or its read. -/
theorem stepKeepsRooms : Obligations.StepKeepsRooms := by
  intro s t hs h
  unfold step at h
  split at h
  · cases h
    exact roomsOk_ite hs ((KeepsRooms.serveSuspended s).roomsOk hs)
  next i rest _ => exact roomsOk_exec (((KeepsRooms.refl s).same (u := { s with pending := rest }) rfl).roomsOk hs) h

end Sys2Proof.CuttingsProofs
end

section
/-! Log Sample (R86, R87). -/

namespace Sys2Proof.CuttingsProofs

open Sys2Proof Machine ConnectionProofs

/-- The operands of a Log Sample are in their ranges: the colour, and at most three notes (R86). -/
def SampleOperands (colour : Option Nat) (notes : List Nat) : Prop :=
  (∀ c, colour = some c → c ≤ 15) ∧ notes.length ≤ 3 ∧ ∀ x ∈ notes, 1 ≤ x ∧ x ≤ 255

theorem sampleOperands_iff (colour : Option Nat) (notes : List Nat) :
    (colour.all (fun c => c ≤ 15) && notes.length ≤ 3 && notes.all (inRange 1 255)) = false ↔
      ¬ SampleOperands colour notes := by
  rw [← Bool.not_eq_true, not_iff_not]
  simp only [SampleOperands, Bool.and_eq_true, List.all_eq_true, inRange_iff, decide_eq_true_eq, and_assoc,
    Option.all_eq_true]

section
variable {colour : Option Nat} {notes : List Nat}

theorem ownLogSample_of_operands (h : ¬ SampleOperands colour notes) (n code : Nat) (s : State) :
    ownLogSample n code colour notes s = say .badValue s := if_pos ((sampleOperands_iff _ _).mpr h)

variable (hok : SampleOperands colour notes) {n code : Nat} {s : State}
include hok

/-- With its operands in range Log Sample goes on to the code (R86). -/
theorem ownLogSample_of_code (h : (if inRange 1 63 code then s.slu.classOf code else none) = none) :
    ownLogSample n code colour notes s = say .badValue s := by
  unfold ownLogSample
  rw [if_neg fun hbad => (sampleOperands_iff _ _).mp hbad hok, h]

variable {cls : RockClass} (hcode : inRange 1 63 code = true) (hcls : s.slu.classOf code = some cls)
include hcode hcls

/-- With a code of the lithology table it goes on to the interval. -/
theorem ownLogSample_of_undrilled (h : s.drilledInterval n = false) :
    ownLogSample n code colour notes s = say .notFound s := by
  unfold ownLogSample
  rw [if_neg fun hbad => (sampleOperands_iff _ _).mp hbad hok, if_pos hcode, hcls]
  exact if_pos h

theorem ownLogSample_of_open (hdrilled : s.drilledInterval n = true) (h : s.isOpenInterval n = true) :
    ownLogSample n code colour notes s = say .notDue s := by
  unfold ownLogSample
  rw [if_neg fun hbad => (sampleOperands_iff _ _).mp hbad hok, if_pos hcode, hcls]
  exact (if_neg (by simp [hdrilled])).trans (if_pos h)

/-- For a closed interval of the job the parcel decides (R86, R87). -/
theorem ownLogSample_of_closed (hdrilled : s.drilledInterval n = true) (h : s.isOpenInterval n = false) :
    ownLogSample n code colour notes s =
      match s.parcel n with
      | none => say .tooLate s
      | some p =>
        match p.status with
        | .finalWaiting => say .tooLate s
        | .inFlight => say .notDue s
        | .due =>
          if 3 < p.record.notes.length + notes.length then say .tableFull s
          else say .ok (s.finishParcel (p.record.caught code cls colour notes)) := by
  unfold ownLogSample
  rw [if_neg fun hbad => (sampleOperands_iff _ _).mp hbad hok, if_pos hcode, hcls]
  exact (if_neg (by simp [hdrilled])).trans (if_neg (by simp [h]))

end

/-- Settles O39: the checks of Log Sample one after another, and the catch that passes them. -/
theorem loggingASample : Obligations.LoggingASample := by
  unfold Obligations.LoggingASample
  intro ln tag n code colour notes s h ran refused rock drilled operandsOk
  have answered : ∀ {st u}, ownLogSample n code colour notes s = say st u → ran = .next (u.sayOn ln 32 tag st) :=
    request_of_say h tag
  have hdrilled : s.drilledInterval n = true ↔ drilled := by
    simp only [State.drilledInterval, drilled, Bool.and_eq_true]
    cases s.slu.openIv <;> simp
  refine ⟨fun hbad => answered (ownLogSample_of_operands hbad n code s), fun hok hbad => ?_, fun cls hok h1 h63 hcls => ?_⟩
  · refine answered (ownLogSample_of_code hok ?_)
    split
    next hcode =>
      rw [inRange_iff] at hcode
      obtain hbad | hbad | hbad := hbad
      · omega
      · omega
      · exact hbad
    next => rfl
  · have hcode : inRange 1 63 code = true := inRange_iff.mpr ⟨h1, h63⟩
    refine ⟨fun hnot => ?_, fun hyes => ?_⟩
    · exact answered (ownLogSample_of_undrilled hok hcode hcls (by rwa [← Bool.not_eq_true, hdrilled]))
    rw [← hdrilled] at hyes
    refine ⟨fun hopen => ?_, fun hclosed => ?_⟩
    · exact answered (ownLogSample_of_open hok hcode hcls hyes (by simp [State.isOpenInterval, hopen]))
    have howner := ownLogSample_of_closed hok hcode hcls hyes (by simpa [State.isOpenInterval] using hclosed)
    unfold State.parcel at howner
    split
    next hnone =>
      rw [hnone] at howner
      exact answered howner
    next p hp =>
      rw [hp] at howner
      refine ⟨fun hstatus => ?_, fun hstatus => ?_, fun hstatus hfull => ?_, fun hstatus hroom => ?_⟩
        <;> simp only [hstatus] at howner
      · exact answered howner
      · exact answered howner
      · exact answered (howner.trans (if_pos hfull))
      · exact answered (howner.trans (if_neg (Nat.not_lt.mpr hroom)))

end Sys2Proof.CuttingsProofs
end

section
/-! A record becoming final, the overflow, the round of re-offers and the release check (R89 to R91, R103, R116, R136). -/

namespace Sys2Proof.CuttingsProofs

open Sys2Proof Machine ConnectionProofs CirculationProofs

/-! ### Offers of records (R142) -/

theorem isFailed_iff (c : Ctl) : c.isFailed = true ↔ c = .failed := by cases c <;> simp [Ctl.isFailed]

/-- The entry of a strata record as it is queued (R142). -/
def strataEntry (r : StrataRec) : Entry := ⟨.strata r, 0⟩

section
variable {u : Store} {b : EntryBody} (hb : b.isImage = false) (hf : u.ctl ≠ .failed)
include hb hf

theorem offer_of_room (h : u.queue.length < 12) : u.offer b = ({ u with queue := u.queue ++ [⟨b, 0⟩] }, .accepted) := by
  have hroom : u.queue.length < commitRoom := h
  simp [Store.offer, isFailed_iff, hf, hb, hroom]

theorem offer_of_full (h : 12 ≤ u.queue.length) : u.offer b = (u, .full) := by
  have hfull : ¬ u.queue.length < commitRoom := Nat.not_lt.mpr h
  simp [Store.offer, isFailed_iff, hf, hb, hfull]

end

/-! ### One record (R89, R91) -/

theorem finalRecord_rst (s : State) (r : StrataRec) : (finalRecord s r).rst = s.rst := by
  obtain ⟨cls, links, h⟩ := finalRecord_eq s r
  rw [h]

theorem finalRecord_slu (s : State) (r : StrataRec) :
    (finalRecord s r).slu = { s.slu with lastClass := (finalRecord s r).slu.lastClass } := by
  obtain ⟨cls, links, h⟩ := finalRecord_eq s r
  rw [h]

/-- The strata log compares a caught record with the last class (R103). -/
theorem compareStratum_of_caught {s : State} {r : StrataRec} (h : r.status = some .caught) :
    s.compareStratum r =
      (if s.slu.lastClass.isSome = true ∧ s.slu.lastClass ≠ some r.rock then s.fire .stratumChange (.interval r.interval)
        else s).modSlu fun u => { u with lastClass := some r.rock } := by
  unfold State.compareStratum
  rw [if_pos h]
  cases hc : s.slu.lastClass with
  | none => simp
  | some c => by_cases heq : c = r.rock <;> simp [heq]

theorem compareStratum_of_uncaught {s : State} {r : StrataRec} (h : r.status ≠ some .caught) : s.compareStratum r = s :=
  if_neg h

theorem placedParcel_of_offer {s : State} {r : StrataRec} {u : Store} {o : Offer} (h : s.rst.offer (.strata r) = (u, o)) :
    placedParcel s r =
      State.placeParcel { finalRecord (s.modParcel r.interval fun p => { p with record := r }) r with rst := u } r o := by
  have hrst := finalRecord_rst (s.modParcel r.interval fun p => { p with record := r }) r
  unfold placedParcel State.offer
  rw [hrst, State.modParcel, State.modLgu_rst, h]

theorem placedLoose_of_offer {s : State} {r : StrataRec} {u : Store} {o : Offer} (h : s.rst.offer (.strata r) = (u, o)) :
    placedLoose s r = State.placeLoose { finalRecord s r with rst := u } r o := by
  unfold placedLoose State.offer
  rw [finalRecord_rst, h]

theorem finishParcel_of_failed {s : State} {r : StrataRec} (hf : s.rst.ctl = .failed) :
    s.finishParcel r = placedParcel s r := by
  obtain ⟨cls, near, links, hplaced⟩ := placedParcel_eq s r
  rw [finishParcel_eq, takeHead_of_ne]
  rw [hplaced, offer_of_failed ((isFailed_iff _).mpr hf)]
  simp [hf]

theorem finishLoose_of_failed {s : State} {r : StrataRec} (hf : s.rst.ctl = .failed) :
    s.finishLoose r = placedLoose s r := by
  obtain ⟨cls, links, hplaced⟩ := placedLoose_eq s r
  rw [finishLoose_eq, takeHead_of_ne]
  rw [hplaced, offer_of_failed ((isFailed_iff _).mpr hf)]
  simp [hf]

/-! ### The round of re-offers (R90) -/

/-- A strata record joins the commit queue (R142). -/
def queued (s : State) (r : StrataRec) : State := s.modRst fun u => { u with queue := u.queue ++ [strataEntry r] }

/-- A waiting record that the store takes: queued, and gone from where it waited. -/
def accept (s : State) : Waiting → State
  | .loose r => (queued s r).popOverflow
  | .parcel r => (queued s r).dropParcel r.interval

/-- A waiting record that a FAILED store drops. -/
def discard (s : State) : Waiting → State
  | .loose r => s.popOverflow.dropStrata r
  | .parcel r => (s.dropParcel r.interval).dropStrata r

theorem rst_dropParcel (s : State) (n : Nat) : (s.dropParcel n).rst = s.rst := by
  obtain ⟨near, links, h⟩ := dropParcel_eq s n
  rw [h]

theorem rst_accept (s : State) (w : Waiting) :
    ∃ r, (accept s w).rst = { s.rst with queue := s.rst.queue ++ [strataEntry r] } := by
  cases w with
  | loose r => exact ⟨r, rfl⟩
  | parcel r => exact ⟨r, rst_dropParcel _ _⟩

theorem rst_discard (s : State) (w : Waiting) : (discard s w).rst = s.rst := by
  cases w with
  | loose r => rfl
  | parcel r => exact rst_dropParcel s _

theorem offer_eq {s : State} {b : EntryBody} {u : Store} {o : Offer} (h : s.rst.offer b = (u, o)) :
    s.offer b = ({ s with rst := u }, o) := by
  unfold State.offer
  rw [h]

theorem reoffer_cons_of_room {s : State} (hf : s.rst.ctl ≠ .failed) (h : s.rst.queue.length < 12) (w : Waiting)
    (rest : List Waiting) : reoffer (w :: rest) s = reoffer rest (accept s w) := by
  have hoffer : ∀ r, s.offer (.strata r) = (queued s r, .accepted) := fun r =>
    offer_eq (offer_of_room rfl hf h)
  cases w <;> simp only [reoffer, hoffer] <;> rfl

theorem reoffer_cons_of_full {s : State} (hf : s.rst.ctl ≠ .failed) (h : 12 ≤ s.rst.queue.length) (w : Waiting)
    (rest : List Waiting) : reoffer (w :: rest) s = s := by
  have hoffer : ∀ r, s.offer (.strata r) = (s, .full) := fun r =>
    offer_eq (offer_of_full rfl hf h)
  cases w <;> simp only [reoffer, hoffer]

theorem reoffer_cons_of_failed {s : State} (hf : s.rst.ctl = .failed) (w : Waiting) (rest : List Waiting) :
    reoffer (w :: rest) s = reoffer rest (discard s w) := by
  have hoffer : ∀ r, s.offer (.strata r) = (s, .failed) := fun r =>
    offer_eq (offer_of_failed ((isFailed_iff _).mpr hf) _)
  cases w <;> simp only [reoffer, hoffer] <;> rfl

/-- A round takes records in order as far as there is room (R90). -/
theorem reoffer_eq_accept (l : List Waiting) : ∀ {s : State}, s.rst.ctl ≠ .failed →
    reoffer l s = (l.take (12 - s.rst.queue.length)).foldl accept s := by
  induction l with
  | nil => intro s _; rw [List.take_nil]; rfl
  | cons w rest ih =>
    intro s hf
    by_cases hroom : s.rst.queue.length < 12
    · obtain ⟨r, hrst⟩ := rst_accept s w
      have hnext : 12 - s.rst.queue.length = 12 - (accept s w).rst.queue.length + 1 := by
        rw [hrst, List.length_append, List.length_singleton]
        omega
      rw [reoffer_cons_of_room hf hroom, ih (by rw [hrst]; exact hf), hnext]
      rfl
    · have hzero : 12 - s.rst.queue.length = 0 := by omega
      rw [reoffer_cons_of_full hf (Nat.not_lt.mp hroom), hzero]
      rfl

/-- In a FAILED store all leave (R90). -/
theorem reoffer_eq_discard (l : List Waiting) : ∀ {s : State}, s.rst.ctl = .failed → reoffer l s = l.foldl discard s := by
  induction l with
  | nil => exact fun _ => rfl
  | cons w rest ih =>
    intro s hf
    rw [reoffer_cons_of_failed hf, ih (by rw [rst_discard]; exact hf)]
    rfl

/-! ### The records of a round, the overflow first -/

theorem foldl_accept_loose (recs : List StrataRec) : ∀ s : State,
    (recs.map Waiting.loose).foldl accept s =
      { s with
        rst := { s.rst with queue := s.rst.queue ++ recs.map strataEntry }
        slu := { s.slu with overflow := s.slu.overflow.drop recs.length } } := by
  induction recs with
  | nil => intro s; simp
  | cons r recs ih =>
    intro s
    rw [List.map_cons, List.foldl_cons, ih]
    simp [accept, queued, State.popOverflow, State.modSlu, State.modRst]

theorem foldl_discard_loose (recs : List StrataRec) : ∀ s : State,
    (recs.map Waiting.loose).foldl discard s =
      recs.foldl (fun u r => u.fire .commitDropped (.droppedInterval r.interval))
        { s with slu := { s.slu with overflow := s.slu.overflow.drop recs.length } } := by
  induction recs with
  | nil => intro s; simp
  | cons r recs ih =>
    intro s
    rw [List.map_cons, List.foldl_cons, ih, List.foldl_cons]
    congr 1
    simp [discard, State.popOverflow, State.dropStrata, State.modSlu, State.fire, State.modLinks]

/-- The Lag Unit once the parcels of these intervals have left the queue, one after another (R77, R80). -/
def departed (u : LagUnit) (ns : List Nat) : LagUnit :=
  let parcels := u.parcels.filter fun p => !ns.contains p.record.interval
  { u with parcels, nearRaw := if ns = [] then u.nearRaw else decide (u.nearLevel ≤ parcels.length) }

theorem departed_nil (u : LagUnit) : departed u [] = u := by simp [departed]

theorem departed_cons (u : LagUnit) (n : Nat) (ns : List Nat) : departed (departed u [n]) ns = departed u (n :: ns) := by
  have hparcels : (u.parcels.filter fun p => !([n] : List Nat).contains p.record.interval).filter
      (fun p => !ns.contains p.record.interval) = u.parcels.filter fun p => !(n :: ns).contains p.record.interval := by
    rw [List.filter_filter]
    refine List.filter_congr fun p _ => ?_
    simp [Bool.and_comm]
  unfold departed
  dsimp only
  rw [hparcels]
  cases ns <;> simp

/-- The parcel of an interval leaves: beside the Lag Unit only the links change (R77, R80). -/
theorem dropParcel_departed (s : State) (n : Nat) :
    s.dropParcel n = { s with lgu := departed s.lgu [n], liu := (s.dropParcel n).liu } := by
  have hparcels : s.lgu.parcels.filter (·.record.interval != n) =
      s.lgu.parcels.filter fun p => !([n] : List Nat).contains p.record.interval :=
    List.filter_congr fun p _ => by simp only [List.contains_cons, List.contains_nil, Bool.or_false, bne]
  have hlgu : (s.dropParcel n).lgu = departed s.lgu [n] := by
    simp only [State.dropParcel, State.evalNearFull, State.fireLevel_lgu, State.modLgu_lgu, hparcels]
    rfl
  obtain ⟨near, links, h⟩ := dropParcel_eq s n
  rw [← hlgu, h]

theorem foldl_accept_parcel (recs : List StrataRec) : ∀ s : State,
    (recs.map Waiting.parcel).foldl accept s =
      { s with
        rst := { s.rst with queue := s.rst.queue ++ recs.map strataEntry }
        lgu := departed s.lgu (recs.map (·.interval))
        liu := ((recs.map Waiting.parcel).foldl accept s).liu } := by
  induction recs with
  | nil => intro s; simp [departed_nil]
  | cons r recs ih =>
    intro s
    have hone : accept s (.parcel r) =
        { s with
          rst := (queued s r).rst, lgu := departed s.lgu [r.interval], liu := (accept s (.parcel r)).liu } :=
      dropParcel_departed (queued s r) r.interval
    rw [List.map_cons, List.foldl_cons, ih (accept s (.parcel r)), hone]
    simp [departed_cons, queued]

theorem foldl_discard_parcel (recs : List StrataRec) : ∀ s : State,
    (recs.map Waiting.parcel).foldl discard s =
      { s with
        lgu := departed s.lgu (recs.map (·.interval))
        liu := ((recs.map Waiting.parcel).foldl discard s).liu } := by
  induction recs with
  | nil => intro s; simp [departed_nil]
  | cons r recs ih =>
    intro s
    have hone : discard s (.parcel r) =
        { s with lgu := departed s.lgu [r.interval], liu := (discard s (.parcel r)).liu }  := by
      obtain ⟨links, hdrop⟩ : ∃ links, s.dropParcel r.interval = { s with lgu := departed s.lgu [r.interval], liu := links } :=
        ⟨_, dropParcel_departed s r.interval⟩
      simp only [discard, hdrop]
      rfl
    rw [List.map_cons, List.foldl_cons, ih (discard s (.parcel r)), hone]
    simp [departed_cons]

/-! ### Latches of dropped records (R178, R179) -/

/-- A firing of the condition on this link sets its latch (R179). -/
def Hears (l : LinkRec) (c : Cond) : Prop := l.latchWhileMasked = true ∨ l.masked c = false

theorem latch_putLatch (l : LinkRec) (c c' : Cond) (x : Option Latch) :
    (l.putLatch c' x).latch c = if c'.idx = c.idx then x else l.latch c := by
  simp only [LinkRec.latch, LinkRec.putLatch, Fin.getElem_fin, Vector.getElem_set, Fin.val_inj]

/-- From `l` to `m` no set latch of the condition is cleared, and its mask and the option stay. -/
structure KeepsLatch (c : Cond) (l m : LinkRec) : Prop where
  hears : Hears l c → Hears m c
  latch : l.latch c ≠ none → m.latch c ≠ none

theorem KeepsLatch.trans {c : Cond} {l m n : LinkRec} (h : KeepsLatch c l m) (h' : KeepsLatch c m n) : KeepsLatch c l n :=
  ⟨h'.hears ∘ h.hears, h'.latch ∘ h.latch⟩

theorem KeepsLatch.of_same {c : Cond} {l m : LinkRec}
    (h : (m.latches, m.masks, m.latchWhileMasked) = (l.latches, l.masks, l.latchWhileMasked)) : KeepsLatch c l m := by
  simp only [Prod.mk.injEq] at h
  obtain ⟨hlatches, hmasks, hoption⟩ := h
  refine ⟨fun hl => ?_, fun hl => ?_⟩
  · unfold Hears LinkRec.masked
    rw [hmasks, hoption]
    exact hl
  · rwa [LinkRec.latch, hlatches]

variable {c : Cond}

theorem KeepsLatch.putLatch (l : LinkRec) (c' : Cond) (x : Latch) : KeepsLatch c l (l.putLatch c' (some x)) := by
  refine ⟨id, fun hl => ?_⟩
  rw [latch_putLatch]
  split
  · nofun
  · exact hl

theorem KeepsLatch.sendNext (l : LinkRec) : KeepsLatch c l l.sendNext := by
  obtain ⟨hlatches, hmasks, -, -, -, -, -, -, -, hoption⟩ := l.sendNext_kept
  exact .of_same (by rw [hlatches, hmasks, hoption])

theorem KeepsLatch.fireOverflow (l : LinkRec) (c' : Cond) (clock : Nat) : KeepsLatch c l (l.fireOverflow c' clock) := by
  unfold LinkRec.fireOverflow
  split
  · exact .of_same rfl
  · dsimp only
    split
    · split
      · exact .putLatch l _ _
      · exact .of_same rfl
    · exact (KeepsLatch.putLatch l _ _).trans (.of_same rfl)

theorem KeepsLatch.queueNotice (l : LinkRec) (c' : Cond) (x : Latch) (clock : Nat) :
    KeepsLatch c l (l.queueNotice c' x clock) := by
  unfold LinkRec.queueNotice
  split
  · exact KeepsLatch.trans (.of_same (by rfl)) (.sendNext _)
  · split
    · exact .of_same rfl
    · exact KeepsLatch.trans (.of_same (by rfl)) (.fireOverflow _ c' clock)

theorem KeepsLatch.fire (l : LinkRec) (c' : Cond) (x : Content) (clock : Nat) : KeepsLatch c l (l.fire c' x clock) := by
  unfold LinkRec.fire
  split
  · exact .of_same rfl
  · dsimp only
    split
    · split
      · exact .putLatch l c' _
      · exact .of_same rfl
    · exact (KeepsLatch.putLatch l c' _).trans (.queueNotice _ c' _ clock)

/-- A firing that is heard leaves the latch set (R179). -/
theorem latch_fire {l : LinkRec} (h : Hears l c) (x : Content) (clock : Nat) : (l.fire c x clock).latch c ≠ none := by
  have hput : ∀ y, (l.putLatch c (some y)).latch c ≠ none := fun y => by
    rw [latch_putLatch, if_pos rfl]
    nofun
  unfold LinkRec.fire
  split
  next hset =>
    rw [hset]
    nofun
  next =>
    dsimp only
    split
    next hmasked =>
      have hoption : l.latchWhileMasked = true := h.resolve_right (by simp [hmasked])
      rw [if_pos hoption]
      exact hput _
    next => exact (KeepsLatch.queueNotice _ _ _ _).latch (hput _)

theorem link_fire (s : State) (c' : Cond) (x : Content) (ln : Link) :
    (s.fire c' x).link ln = (s.link ln).fire c' x s.jmu.clock := by
  cases ln <;> rfl

theorem keepsLatch_dropParcel (s : State) (n : Nat) (ln : Link) :
    KeepsLatch c (s.link ln) ((s.dropParcel n).link ln) := by
  unfold State.dropParcel State.evalNearFull State.fireLevel
  dsimp only
  split
  · exact .of_same rfl
  · rw [link_fire]
    exact .fire _ _ _ _

/-- A record that a FAILED store drops keeps every set latch, and sets that of COMMIT_DROPPED where it is heard (R90). -/
theorem latch_discard (s : State) (w : Waiting) (ln : Link) :
    KeepsLatch c (s.link ln) ((discard s w).link ln)
      ∧ (Hears (s.link ln) .commitDropped → ((discard s w).link ln).latch .commitDropped ≠ none) := by
  cases w with
  | loose r =>
    have hlink : (discard s (.loose r)).link ln = (s.link ln).fire .commitDropped (.droppedInterval r.interval) s.jmu.clock :=
      link_fire s.popOverflow _ _ ln
    rw [hlink]
    exact ⟨.fire _ _ _ _, fun h => latch_fire h _ _⟩
  | parcel r =>
    have hlink : (discard s (.parcel r)).link ln =
        ((s.dropParcel r.interval).link ln).fire .commitDropped (.droppedInterval r.interval) _ := link_fire _ _ _ ln
    rw [hlink]
    have hdrop := fun c => keepsLatch_dropParcel (c := c) s r.interval ln
    exact ⟨(hdrop c).trans (.fire _ _ _ _), fun h => latch_fire ((hdrop _).hears h) _ _⟩

theorem keepsLatch_foldl_discard (ln : Link) (l : List Waiting) : ∀ s : State,
    KeepsLatch c (s.link ln) ((l.foldl discard s).link ln) := by
  induction l with
  | nil => exact fun _ => .of_same rfl
  | cons w l ih => exact fun s => (latch_discard s w ln).1.trans (ih _)

theorem latch_foldl_discard {l : List Waiting} (hl : l ≠ []) (s : State) {ln : Link} (h : Hears (s.link ln) .commitDropped) :
    ((l.foldl discard s).link ln).latch .commitDropped ≠ none := by
  cases l with
  | nil => exact absurd rfl hl
  | cons w l => exact (keepsLatch_foldl_discard ln l _).latch ((latch_discard (c := .commitDropped) s w ln).2 h)

/-! ### The three parts -/

/-- A record becomes final, with room in the queue, without, and in a FAILED store (R89, R91). -/
theorem finishParcel_cases (s : State) (r : StrataRec) :
    let told := finalRecord (s.modParcel r.interval fun p => { p with record := r }) r
    (s.rst.ctl ≠ .failed → s.rst.queue.length < 12 →
      s.finishParcel r = ((queued told r).dropParcel r.interval).takeHead)
    ∧ (s.rst.ctl ≠ .failed → 12 ≤ s.rst.queue.length →
      s.finishParcel r = (told.modParcel r.interval fun p => { p with status := .finalWaiting }).takeHead)
    ∧ (s.rst.ctl = .failed → s.finishParcel r = (told.dropParcel r.interval).dropStrata r) := by
  intro told
  have hrst : told.rst = s.rst := finalRecord_rst _ r
  have hsame : { told with rst := s.rst } = told := by rw [← hrst]
  refine ⟨fun hf hroom => ?_, fun hf hfull => ?_, fun hf => ?_⟩
  · rw [finishParcel_eq, placedParcel_of_offer (offer_of_room rfl hf hroom), ← hrst]
    rfl
  · rw [finishParcel_eq, placedParcel_of_offer (offer_of_full rfl hf hfull)]
    exact congrArg State.takeHead (congrArg (State.placeParcel · r .full) hsame)
  · rw [finishParcel_of_failed hf, placedParcel_of_offer (offer_of_failed ((isFailed_iff _).mpr hf) _)]
    exact congrArg (State.placeParcel · r .failed) hsame

theorem finishLoose_cases (s : State) (r : StrataRec) :
    let loose := finalRecord s r
    (s.rst.ctl ≠ .failed → s.rst.queue.length < 12 → s.finishLoose r = (queued loose r).takeHead)
    ∧ (s.rst.ctl ≠ .failed → 12 ≤ s.rst.queue.length → s.finishLoose r = (loose.placeLoose r .full).takeHead)
    ∧ (s.rst.ctl = .failed → s.finishLoose r = loose.dropStrata r) := by
  intro loose
  have hrst : loose.rst = s.rst := finalRecord_rst _ r
  have hsame : { loose with rst := s.rst } = loose := by rw [← hrst]
  refine ⟨fun hf hroom => ?_, fun hf hfull => ?_, fun hf => ?_⟩
  · rw [finishLoose_eq, placedLoose_of_offer (offer_of_room rfl hf hroom), ← hrst]
    rfl
  · rw [finishLoose_eq, placedLoose_of_offer (offer_of_full rfl hf hfull)]
    exact congrArg State.takeHead (congrArg (State.placeLoose · r .full) hsame)
  · rw [finishLoose_of_failed hf, placedLoose_of_offer (offer_of_failed ((isFailed_iff _).mpr hf) _)]
    exact congrArg (State.placeLoose · r .failed) hsame

/-- A record of the job waits in the cuttings queue, the overflow or the commit queue (R136). -/
theorem strataWaits_iff (s : State) (n : Nat) :
    s.strataWaits n = true ↔ (∃ p ∈ s.lgu.parcels, p.record.job = n) ∨ (∃ x ∈ s.slu.overflow, x.job = n)
      ∨ ∃ e ∈ s.rst.queue, ∃ x, e.body = .strata x ∧ x.job = n := by
  have hbody : ∀ b : EntryBody, b.ofJob n = true ↔ ∃ x, b = .strata x ∧ x.job = n := by
    intro b
    cases b <;> simp [EntryBody.ofJob]
  simp only [State.strataWaits, Bool.or_eq_true, List.any_eq_true, beq_iff_eq, hbody, or_assoc]

theorem releaseCheck_of_not_held {s : State} (h : s.jmu.state ≠ .closing .held) : s.releaseCheck = s := by
  unfold State.releaseCheck
  split
  next hstate _ => exact absurd hstate h
  next => rfl

theorem releaseCheck_of_held {s : State} {r : JobRecord} (h : s.jmu.state = .closing .held) (hr : s.jmu.record = some r) :
    s.releaseCheck =
      if s.strataWaits r.ident.number then s
      else
        match s.offer (.job r) with
        | (s, .accepted) => s.modJmu fun u => { u with state := .closing .offered }
        | (s, .full) => s
        | (s, .failed) => (s.fire .commitDropped (.droppedJob r.ident.number)).endJob := by
  unfold State.releaseCheck
  rw [h, hr] <;> rfl

end Sys2Proof.CuttingsProofs
end

section
/-! The path of a final record settled (R89 to R91, R103, R116, R136, R144). -/

namespace Sys2Proof.CuttingsProofs

open Sys2Proof Machine ConnectionProofs CirculationProofs

/-! ### A whole round of re-offers (R90) -/

/-- The records of the parcels that wait, oldest first. -/
def finalRecords (s : State) : List StrataRec := (s.lgu.parcels.filter fun p => p.status == .finalWaiting).map (·.record)

theorem waiting_eq (s : State) : s.waiting = s.slu.overflow.map Waiting.loose ++ (finalRecords s).map Waiting.parcel := by
  simp only [State.waiting, finalRecords, List.map_map]
  rfl

/-- A round with a store that takes records: as many as it has room for, those of the overflow first. -/
theorem reoffer_waiting_of_running {s : State} (hf : s.rst.ctl ≠ .failed) :
    let room := 12 - s.rst.queue.length
    let out := s.slu.overflow.take room
    let taken := (finalRecords s).take (room - s.slu.overflow.length)
    reoffer s.waiting s =
      (taken.map Waiting.parcel).foldl accept
        { s with
          rst := { s.rst with queue := s.rst.queue ++ out.map strataEntry }
          slu := { s.slu with overflow := s.slu.overflow.drop room } } := by
  intro room out taken
  have hdrop : s.slu.overflow.drop out.length = s.slu.overflow.drop room := by
    rw [List.length_take]
    rcases Nat.le_total room s.slu.overflow.length with h | h
    · rw [Nat.min_eq_left h]
    · rw [Nat.min_eq_right h, List.drop_length, List.drop_eq_nil_of_le h]
  have htake : s.waiting.take room = out.map Waiting.loose ++ taken.map Waiting.parcel := by
    rw [waiting_eq, List.take_append, List.length_map, ← List.map_take, ← List.map_take]
  rw [reoffer_eq_accept _ hf, htake, List.foldl_append, foldl_accept_loose, hdrop]

/-- A round with a FAILED store: all leave, those of the overflow first. -/
theorem reoffer_waiting_of_failed {s : State} (hf : s.rst.ctl = .failed) :
    reoffer s.waiting s =
      ((finalRecords s).map Waiting.parcel).foldl discard
        (State.fireEach { s with slu := { s.slu with overflow := [] } } .commitDropped
          (s.slu.overflow.map fun r => .droppedInterval r.interval)) := by
  rw [reoffer_eq_discard _ hf, waiting_eq, List.foldl_append, foldl_discard_loose, List.drop_length]
  congr 1
  rw [State.fireEach, List.foldl_map]

/-- Where COMMIT_DROPPED is heard, a round that drops a record leaves its latch set (R90, R179). -/
theorem latch_reoffer_waiting {s : State} (hf : s.rst.ctl = .failed) {r : StrataRec}
    (hr : r ∈ s.slu.overflow ++ finalRecords s) {ln : Link} (h : Hears (s.link ln) .commitDropped) :
    ((reoffer s.waiting s).link ln).latch .commitDropped ≠ none := by
  rw [reoffer_eq_discard _ hf]
  refine latch_foldl_discard (fun hnone => ?_) s h
  rw [waiting_eq, List.append_eq_nil_iff, List.map_eq_nil_iff, List.map_eq_nil_iff] at hnone
  simp [hnone.1, hnone.2] at hr

/-! ### The obligation -/

/-- Settles O36: a record's classification and comparison with the three outcomes of its offer (`finishParcel_cases`,
`finishLoose_cases`), the round of re-offers as a fold over the records it takes or drops (`reoffer_waiting_of_running`,
`reoffer_waiting_of_failed`), and the branches of the release check. -/
theorem finalRecordPath : Obligations.FinalRecordPath := by
  unfold Obligations.FinalRecordPath
  refine ⟨fun s r => ?_, fun s => ?_, fun s => ⟨releaseCheck_of_not_held, fun r hheld hr => ?_⟩⟩
  · intro caught rock credited compared told loose queued' gone
    have hcompared : ∀ base : State, base.slu = s.slu → base.compareStratum r = compared base := fun base hbase => by
      by_cases hc : caught
      · rw [compareStratum_of_caught hc, hbase]
        simp only [compared, hc, true_and, if_true]
        rfl
      · rw [compareStratum_of_uncaught hc]
        simp only [compared, hc, false_and, if_false]
    have htold : finalRecord (s.modParcel r.interval fun p => { p with record := r }) r = told := hcompared _ rfl
    have hloose : finalRecord s r = loose := hcompared _ rfl
    have hoverflow : loose.slu.overflow = s.slu.overflow := by rw [← hloose, finalRecord_slu]
    obtain ⟨hroom, hfull, hfailed⟩ := finishParcel_cases s r
    obtain ⟨hroom', hfull', hfailed'⟩ := finishLoose_cases s r
    rw [htold] at hroom hfull hfailed
    rw [hloose] at hroom' hfull' hfailed'
    refine ⟨fun hf hlt => ⟨hroom hf hlt, hroom' hf hlt⟩, fun hf hle => ⟨hfull hf hle, ?_⟩,
      fun hf => ⟨hfailed hf, hfailed' hf⟩⟩
    rw [hfull' hf hle, ← hoverflow]
    rfl
  · intro final t
    refine ⟨waiting_eq s, fun hf => ?_, fun hf => ?_⟩
    · intro room out taken
      have ht : t = _ := reoffer_waiting_of_running hf
      have hnil : taken = [] → t = { s with rst := t.rst, slu := t.slu } := fun h => by
        rw [ht, show (finalRecords s).take (room - s.slu.overflow.length) = [] from h]
        rfl
      rw [foldl_accept_parcel] at ht
      have hrst : t.rst = { s.rst with queue := s.rst.queue ++ (out ++ taken).map strataEntry } := by
        rw [ht]
        simp only [List.map_append, List.append_assoc]
        rfl
      have hlgu : t.lgu = departed s.lgu (taken.map (·.interval)) := congrArg State.lgu ht
      refine ⟨hrst, congrArg State.slu ht, by rw [hlgu]; rfl, hnil, fun hne => ?_, by rw [ht]⟩
      rw [hlgu]
      exact if_neg (by simpa using hne)
    · have ht : t = _ := reoffer_waiting_of_failed hf
      have hnil : final = [] → t = State.fireEach { s with slu := { s.slu with overflow := [] } } .commitDropped
          (s.slu.overflow.map fun r => .droppedInterval r.interval) := fun h => by
        rw [ht, show finalRecords s = [] from h]
        rfl
      rw [foldl_discard_parcel, State.fireEach_eq] at ht
      have hslu : t.slu = { s.slu with overflow := [] } := congrArg State.slu ht
      have hlgu : t.lgu = departed s.lgu (final.map (·.interval)) := congrArg State.lgu ht
      refine ⟨hslu, by rw [hlgu]; rfl, fun h => ?_, fun r hr ln h => latch_reoffer_waiting hf hr h, by rw [ht]⟩
      rw [hslu, hnil h, State.fireEach, List.foldl_map]
  · intro n waits
    have hwaits : s.strataWaits n = true ↔ waits := strataWaits_iff s n
    have hcheck := releaseCheck_of_held hheld hr
    refine ⟨fun hw => ?_, fun hw hf => ?_, fun hw hf hroom => ?_, fun hw hf hfull => ?_⟩
      <;> rw [← hwaits] at hw
    · rw [hcheck, if_pos hw]
    all_goals rw [hcheck, if_neg hw]
    · rw [offer_eq (offer_of_failed ((isFailed_iff _).mpr hf) _)]
      rfl
    · rw [offer_eq (offer_of_room rfl hf hroom)]
      rfl
    · rw [offer_eq (offer_of_full rfl hf hfull)]

end Sys2Proof.CuttingsProofs
end

section
/-! Due detection settled (R82 to R84). -/

namespace Sys2Proof.CuttingsProofs

open Sys2Proof Machine ConnectionProofs CirculationProofs

/-! ### The command (R82) -/

theorem whenOn_of_on {s : State} (h : s.power = .on) (f : State → State) : whenOn s f = .next (f s) :=
  congrArg _ (if_pos h)

theorem exec_dueDetection {s : State} (h : s.power = .on) :
    exec .dueDetection s = .next (if s.lgu.rise then s.dueDetection else s) := whenOn_of_on h _

theorem exec_windowExpiry {s : State} (h : s.power = .on) :
    exec .windowExpiry s = .next (if s.lgu.rise then s.windowExpiry else s) := whenOn_of_on h _

/-! ### Parcels that become DUE in turn -/

/-- A parcel that has become DUE, its sample window open (R83). -/
def dueParcel (window : Nat) (p : Parcel) : Parcel := { p with status := .due, windowEnd := some (p.eff + window) }

/-- The parcels of these intervals have become DUE (R83). -/
def dueParcels (ns : List Nat) (u : LagUnit) : LagUnit :=
  { u with parcels := u.parcels.map fun p => if p.record.interval ∈ ns then dueParcel u.sampleWindow p else p }

/-- A change of the Lag Unit and firings at the links do not see each other. -/
theorem modLgu_fireEach (f : LagUnit → LagUnit) (c : Cond) (xs : List Content) : ∀ s : State,
    (s.fireEach c xs).modLgu f = (s.modLgu f).fireEach c xs := by
  induction xs with
  | nil => exact fun _ => rfl
  | cons x xs ih => exact fun s => ih (s.fire c x)

theorem dueParcels_nil (u : LagUnit) : dueParcels [] u = u := by simp [dueParcels]

theorem dueParcels_cons (n : Nat) (ns : List Nat) (u : LagUnit) :
    dueParcels ns (dueParcels [n] u) = dueParcels (n :: ns) u := by
  unfold dueParcels
  dsimp only
  rw [List.map_map]
  congr 1
  refine List.map_congr_left fun p _ => ?_
  by_cases hn : p.record.interval = n <;> by_cases hns : p.record.interval ∈ ns <;> simp [hn, hns, dueParcel]

theorem becomeDue_eq (s : State) (n : Nat) :
    s.becomeDue n = (s.modLgu (dueParcels [n])).fire .sampleDue (.interval n) := by
  simp only [State.becomeDue, State.modParcel, State.modLgu, dueParcels, dueParcel, List.mem_singleton]

/-- The parcels become DUE one after another, and SAMPLE_DUE fires for each (R83, R84). -/
theorem foldl_becomeDue (ns : List Nat) : ∀ s : State,
    ns.foldl State.becomeDue s = (s.modLgu (dueParcels ns)).fireEach .sampleDue (ns.map .interval) := by
  induction ns with
  | nil =>
    intro s
    simp only [State.modLgu, dueParcels_nil]
    rfl
  | cons n ns ih =>
    intro s
    have hlgu : (s.becomeDue n).modLgu (dueParcels ns) =
        (s.modLgu (dueParcels (n :: ns))).fire .sampleDue (.interval n) := by
      rw [becomeDue_eq]
      exact congrArg (fun u => State.fire { s with lgu := u } .sampleDue (.interval n)) (dueParcels_cons n ns s.lgu)
    rw [List.foldl_cons, ih, hlgu]
    rfl

/-! ### The obligation -/

/-- The parcels that a rise finds due are those of the reaching intervals, as the intervals are distinct. -/
theorem mem_reaching {s : State} (hq : QueueOk s) {p : Parcel} (hp : p ∈ s.lgu.parcels) :
    p.record.interval ∈ s.reaching ↔ p.status = .inFlight ∧ p.eff ≤ s.ccu.lift := by
  simp only [State.reaching, List.mem_map, List.mem_filter, Bool.and_eq_true, beq_iff_eq, decide_eq_true_eq]
  constructor
  · rintro ⟨q, ⟨hmem, hreached⟩, hn⟩
    rwa [← List.inj_on_of_nodup_map (intervals_nodup hq) hmem hp hn]
  · exact fun h => ⟨p, ⟨hp, h⟩, rfl⟩

/-- Settles O33: the fold over the reaching intervals in one step (`foldl_becomeDue`), and which parcels they name
(`mem_reaching`). -/
theorem dueDetectionResult : Obligations.DueDetectionResult := by
  unfold Obligations.DueDetectionResult
  refine fun s hpower => ⟨fun hrise => ?_, fun hrise hq => ?_⟩ <;> rw [exec_dueDetection hpower, hrise]
  · rfl
  · have hdue : dueParcels s.reaching s.lgu =
        { s.lgu with
          parcels := s.lgu.parcels.map fun p =>
            if p.status = .inFlight ∧ p.eff ≤ s.ccu.lift then dueParcel s.lgu.sampleWindow p else p } :=
      congrArg (fun l => { s.lgu with parcels := l })
        (List.map_congr_left fun p hp => if_congr (mem_reaching hq hp) rfl rfl)
    have hfired : s.reaching.map Content.interval =
        (s.lgu.parcels.filter fun p => p.status = .inFlight ∧ p.eff ≤ s.ccu.lift).map fun p =>
          .interval p.record.interval := by
      rw [State.reaching, List.map_map]
      refine congrArg _ (List.filter_congr fun p _ => ?_)
      simp only [Bool.decide_and, beq_eq_decide]
    rw [if_pos rfl, State.dueDetection, foldl_becomeDue, modLgu_fireEach, hfired, State.modLgu, State.modLgu, hdue]
    rfl

end Sys2Proof.CuttingsProofs
end

section
/-! Window expiry settled (R82, R84, R85, R89). -/

namespace Sys2Proof.CuttingsProofs

open Sys2Proof Machine ConnectionProofs CirculationProofs

/-! ### Power stays on the path of a final record -/

/-- What every step of a fold leaves as it was, the fold leaves as it was. -/
theorem foldl_keeps {α β : Type} {g : State → β} {f : State → α → State} (h : ∀ s x, g (f s x) = g s) (l : List α) :
    ∀ s : State, g (l.foldl f s) = g s := by
  induction l with
  | nil => exact fun _ => rfl
  | cons x l ih => exact fun s => (ih (f s x)).trans (h s x)

theorem power_of_offer {s t : State} {b : EntryBody} {o : Offer} (h : s.offer b = (t, o)) : t.power = s.power :=
  congrArg (fun x => x.1.power) h.symm

theorem power_placeParcel (s : State) (r : StrataRec) (o : Offer) : (s.placeParcel r o).power = s.power := by
  obtain ⟨near, links, h⟩ := placeParcel_eq s r o
  rw [h]

theorem power_accept (s : State) (w : Waiting) : (accept s w).power = s.power := by
  cases w with
  | loose r => rfl
  | parcel r => exact power_placeParcel (queued s r) r .accepted

theorem power_discard (s : State) (w : Waiting) : (discard s w).power = s.power := by
  cases w with
  | loose r => rfl
  | parcel r => exact power_placeParcel s r .failed

theorem power_reoffer (l : List Waiting) (s : State) : (reoffer l s).power = s.power := by
  by_cases hf : s.rst.ctl = .failed
  · rw [reoffer_eq_discard l hf]
    exact foldl_keeps power_discard l s
  · rw [reoffer_eq_accept l hf]
    exact foldl_keeps power_accept _ s

theorem power_releaseCheck (s : State) : s.releaseCheck.power = s.power := by
  unfold State.releaseCheck
  split
  · split
    · rfl
    · split <;> rename_i hoffer <;> exact (power_of_offer hoffer :)
  · rfl

theorem power_work (s : State) (e : Entry) : (s.work e).1.power = s.power := by
  unfold State.work
  split
  · rfl
  · rfl
  · refine (power_releaseCheck _).trans ((power_reoffer _ _).trans ?_)
    cases e.body <;> rfl

theorem power_takeLoop (fuel : Nat) : ∀ s : State, (takeLoop fuel s).power = s.power := by
  induction fuel with
  | zero => exact fun _ => rfl
  | succ fuel ih =>
    intro s
    unfold takeLoop
    split
    next e _ _ _ =>
      have hwork := power_work s e
      split <;> rename_i heq <;> rw [heq] at hwork
      · exact (ih _).trans hwork
      · exact hwork
    next => rfl

theorem power_finishParcel (s : State) (r : StrataRec) : (s.finishParcel r).power = s.power := by
  obtain ⟨cls, near, links, hplaced⟩ := placedParcel_eq s r
  rw [finishParcel_eq, State.takeHead, power_takeLoop, hplaced]

theorem power_expire (s : State) (r : StrataRec) : (s.expire r).power = s.power := power_finishParcel _ _

theorem power_windowExpiry (s : State) : s.windowExpiry.power = s.power := foldl_keeps (g := State.power) power_expire _ s

/-! ### The last class: only a caught record is compared with it (R103) -/

theorem lastClass_finishParcel {s : State} {r : StrataRec} (h : r.status ≠ some .caught) :
    (s.finishParcel r).slu.lastClass = s.slu.lastClass := by
  let t := s.modParcel r.interval fun p => { p with record := r }
  obtain ⟨near, links, hplace⟩ :=
    placeParcel_eq ((finalRecord t r).offer (.strata r)).1 r ((finalRecord t r).offer (.strata r)).2
  have hplaced : (placedParcel s r).slu = (finalRecord t r).slu := (congrArg State.slu hplace :)
  have hfinal : finalRecord t r = t.classify r := compareStratum_of_uncaught h
  rw [finishParcel_eq, (Departs.takeHead (N := False) nofun).slu, hplaced, hfinal]
  rfl

theorem lastClass_expire (s : State) (r : StrataRec) : (s.expire r).slu.lastClass = s.slu.lastClass :=
  lastClass_finishParcel nofun

theorem lastClass_windowExpiry (s : State) : s.windowExpiry.slu.lastClass = s.slu.lastClass :=
  foldl_keeps (g := fun s => s.slu.lastClass) lastClass_expire _ s

/-! ### The parcels after records were made final in turn (R89) -/

/-- A parcel whose final record waits for the store (R89). -/
def finalParcel (p : Parcel) (r : StrataRec) : Parcel := { p with status := .finalWaiting, record := r }

/-- A parcel in the queue after a record became final was there before, or is that record's own, waiting. -/
theorem mem_parcels_finishParcel {s : State} {r : StrataRec} {q : Parcel} (h : q ∈ (s.finishParcel r).lgu.parcels) :
    q ∈ s.lgu.parcels ∨ ∃ p ∈ s.lgu.parcels, p.record.interval = r.interval ∧ q = finalParcel p r := by
  obtain ⟨cls, near, links, hplaced⟩ := placedParcel_eq s r
  have hq : q ∈ placedParcels (s.rst.offer (.strata r)).2 r s.lgu.parcels := by
    have := (Departs.takeHead (N := False) (s := placedParcel s r) nofun).parcels.subset h
    rwa [hplaced] at this
  cases hoffer : (s.rst.offer (.strata r)).2 with
  | full =>
    rw [hoffer] at hq
    obtain ⟨p, hp, rfl⟩ := List.mem_map.mp hq
    by_cases hn : p.record.interval = r.interval
    · exact .inr ⟨p, hp, hn, if_pos hn⟩
    · exact .inl (by rwa [if_neg hn])
  | accepted =>
    rw [hoffer] at hq
    exact .inl (List.mem_of_mem_filter hq)
  | failed =>
    rw [hoffer] at hq
    exact .inl (List.mem_of_mem_filter hq)

section
variable {f : State → StrataRec → State} {st : SampleStatus} (hf : MakesFinal f st)
include hf

theorem mem_parcels_foldl (l : List StrataRec) : ∀ {s : State} {q : Parcel}, q ∈ (l.foldl f s).lgu.parcels →
    q ∈ s.lgu.parcels
      ∨ ∃ p ∈ s.lgu.parcels, ∃ r ∈ l, p.record.interval = r.interval ∧ q = finalParcel p (r.unsampled st) := by
  induction l with
  | nil => exact fun h => .inl h
  | cons r l ih =>
    intro s q h
    have hstep : ∀ p ∈ (f s r).lgu.parcels, p ∈ s.lgu.parcels
        ∨ ∃ o ∈ s.lgu.parcels, o.record.interval = r.interval ∧ p = finalParcel o (r.unsampled st) := fun p hp => by
      obtain ⟨links, heq⟩ := hf s r
      rw [heq] at hp
      exact mem_parcels_finishParcel hp
    rcases ih h with hq | ⟨p, hp, r', hr', hn, rfl⟩
    · rcases hstep q hq with hq | ⟨o, ho, hn, rfl⟩
      · exact .inl hq
      · exact .inr ⟨o, ho, r, List.mem_cons_self, hn, rfl⟩
    · rcases hstep p hp with hp | ⟨o, ho, hon, rfl⟩
      · exact .inr ⟨p, hp, r', List.mem_cons_of_mem _ hr', hn, rfl⟩
      · exact .inr ⟨o, ho, r', List.mem_cons_of_mem _ hr', hon.trans hn, rfl⟩

/-- With distinct intervals exactly the parcels of other intervals stay under construction. -/
theorem mem_unfinal_foldl_iff (l : List StrataRec) : ∀ {s : State} {p : Parcel}, (intervals s.lgu).Nodup →
    (p ∈ unfinal (l.foldl f s).lgu ↔ p ∈ unfinal s.lgu ∧ ∀ r ∈ l, p.record.interval ≠ r.interval) := by
  induction l with
  | nil => exact fun _ => by simp
  | cons r l ih =>
    intro s p hnodup
    obtain ⟨links, heq⟩ := hf s r
    have hstep : unfinal (f s r).lgu = (unfinal s.lgu).filter fun p => p.record.interval != r.interval := by
      rw [heq]
      exact unfinal_finishParcel (s := { s with liu := links }) hnodup (r.unsampled st)
    rw [List.foldl_cons, ih ((hf.finals s r).nodup hnodup), hstep]
    simp [and_assoc]

end

/-! ### The parcels that expire (R84, R85) -/

/-- The counter has reached the end of the parcel's sample window (R84). -/
def Reached (lift : Nat) (p : Parcel) : Prop := p.status = .due ∧ (p.windowEnd.any fun w => decide (w ≤ lift)) = true

theorem mem_unfinal {u : LagUnit} {p : Parcel} : p ∈ unfinal u ↔ p ∈ u.parcels ∧ p.status ≠ .finalWaiting := by
  simp [unfinal]

theorem Reached.unfinal {lift : Nat} {p : Parcel} (h : Reached lift p) : p.status ≠ .finalWaiting := by
  rw [h.1]
  nofun

theorem expiring_eq (s : State) :
    s.expiring = (s.lgu.parcels.filter fun p =>
      decide (p.status = .due ∧ (p.windowEnd.any fun w => decide (w ≤ s.ccu.lift)) = true)).map (·.record) := by
  refine congrArg _ (List.filter_congr fun p _ => ?_)
  cases p.windowEnd <;> simp [beq_eq_decide]

theorem mem_expiring {s : State} {r : StrataRec} :
    r ∈ s.expiring ↔ ∃ p ∈ s.lgu.parcels, Reached s.ccu.lift p ∧ p.record = r := by
  simp only [expiring_eq, List.mem_map, List.mem_filter, decide_eq_true_eq, Reached, and_assoc]

section
variable {s : State}

/-- A parcel of an expiring interval is the one that expires. -/
theorem reached_of_expiring (hq : QueueOk s) {p : Parcel} (hp : p ∈ s.lgu.parcels) {r : StrataRec} (hr : r ∈ s.expiring)
    (hn : p.record.interval = r.interval) : Reached s.ccu.lift p ∧ p.record = r := by
  obtain ⟨q, hmem, hreached, rfl⟩ := mem_expiring.mp hr
  obtain rfl := List.inj_on_of_nodup_map (intervals_nodup hq) hp hmem hn
  exact ⟨hreached, rfl⟩

theorem not_reached_of_mem (hq : QueueOk s) {p : Parcel} (hp : p ∈ s.windowExpiry.lgu.parcels) : ¬ Reached s.ccu.lift p := by
  intro hreached
  obtain ⟨hold, hother⟩ := (mem_unfinal_foldl_iff makesFinal_expire s.expiring (intervals_nodup hq)).mp
    (mem_unfinal.mpr ⟨hp, hreached.unfinal⟩)
  exact hother _ (mem_expiring.mpr ⟨p, (mem_unfinal.mp hold).1, hreached, rfl⟩) rfl

theorem mem_windowExpiry_iff (hq : QueueOk s) {p : Parcel} (hfinal : p.status ≠ .finalWaiting)
    (hreached : ¬ Reached s.ccu.lift p) : p ∈ s.windowExpiry.lgu.parcels ↔ p ∈ s.lgu.parcels := by
  have hiff := mem_unfinal_foldl_iff makesFinal_expire s.expiring (p := p) (intervals_nodup hq)
  constructor
  · exact fun hp => (mem_unfinal.mp (hiff.mp (mem_unfinal.mpr ⟨hp, hfinal⟩)).1).1
  · exact fun hp => (mem_unfinal.mp (hiff.mpr ⟨mem_unfinal.mpr ⟨hp, hfinal⟩,
      fun r hr hn => hreached (reached_of_expiring hq hp hr hn).1⟩)).1

theorem final_of_mem_windowExpiry (hq : QueueOk s) {q : Parcel} (h : q ∈ s.windowExpiry.lgu.parcels) :
    q ∈ s.lgu.parcels
      ∨ ∃ p ∈ s.lgu.parcels, Reached s.ccu.lift p ∧ q = finalParcel p (p.record.unsampled .missed) := by
  rcases mem_parcels_foldl makesFinal_expire s.expiring h with hq' | ⟨p, hp, r, hr, hn, rfl⟩
  · exact .inl hq'
  · obtain ⟨hreached, rfl⟩ := reached_of_expiring hq hp hr hn
    exact .inr ⟨p, hp, hreached, rfl⟩

end

theorem finals_windowExpiry (s : State) : Finals (s.expiring.map (·.unsampled .missed)) s s.windowExpiry :=
  makesFinal_expire.finals_foldl s.expiring s

/-! ### A lifted stroke (R84) -/

theorem lifts_and_pos_iff (s : State) (inc : Nat) :
    (s.ccu.state.lifts ∧ 0 < inc) ↔ s.ccu.state ≠ .idle ∧ s.ccu.state ≠ .totalLoss ∧ 0 < inc := by
  rw [lifts_iff, not_or, and_assoc]

/-- A rise handed to the Lag Unit: expiry, then due detection, which ends it. -/
theorem exec_of_rise {s : State} (hpower : s.power = .on) (hrise : s.lgu.rise = true) :
    exec .windowExpiry s = .next s.windowExpiry ∧ exec .dueDetection s.windowExpiry = .next s.liftRose
      ∧ s.liftRose.lgu.rise = false := by
  have hkept : s.windowExpiry.lgu.rise = true := by
    rw [(finals_windowExpiry s).lgu]
    exact hrise
  rw [exec_windowExpiry hpower, exec_dueDetection ((power_windowExpiry s).trans hpower), hrise, hkept]
  exact ⟨rfl, rfl, rfl⟩

/-! ### The obligation -/

/-- Settles O34: the fold over the expiring records, whose parcels alone leave construction, as the intervals are distinct
(`not_reached_of_mem`, `mem_windowExpiry_iff`, `final_of_mem_windowExpiry`), what a final record leaves as it was, and the
two stages of a lifted stroke (`exec_of_rise`). -/
theorem windowExpiryResult : Obligations.WindowExpiryResult := by
  unfold Obligations.WindowExpiryResult
  refine ⟨fun s hpower => ⟨fun hrise => ?_, fun hrise => ?_⟩, fun s inc hpower => ⟨fun hlift => ?_, fun hlift => ?_⟩⟩
  · rw [exec_windowExpiry hpower, hrise]
    rfl
  · have hexec := (exec_of_rise hpower hrise).1
    refine ⟨?_, fun hq => ⟨_, hexec, fun p => not_reached_of_mem hq, fun p => mem_windowExpiry_iff hq,
      fun q hmem _ => final_of_mem_windowExpiry hq hmem, ?_⟩⟩
    · rw [hexec, State.windowExpiry, expiring_eq, List.foldl_map]
      rfl
    · have hfinals := finals_windowExpiry s
      obtain ⟨htick, hflu, hstr, hcxu, hccu⟩ := (rig_eq_iff s s.windowExpiry).mp hfinals.rig
      refine ⟨hccu, hstr, hcxu, hflu, htick, ?_, ?_, lastClass_windowExpiry s⟩
      · rw [hfinals.advances.jmu]
      · rw [hfinals.slu]
  · exact if_neg fun h => hlift ((lifts_and_pos_iff s inc).mp h)
  · obtain ⟨hexpiry, hdue, hended⟩ :=
      exec_of_rise (s := { s with ccu := { s.ccu with lift := s.ccu.lift + inc }, lgu := { s.lgu with rise := true } })
        hpower rfl
    exact ⟨_, _, hexpiry, hdue, if_pos ((lifts_and_pos_iff s inc).mpr hlift), hended⟩

end Sys2Proof.CuttingsProofs
end

section
/-! The cold start of the strata log and the job meters (R108, R124, R138), and the reports of water strikes and notes
(R101, R102). -/

namespace Sys2Proof.StrataLogProofs

open Sys2Proof Machine ConnectionProofs CirculationProofs

/-! ### Cold start -/

/-- Settles O5: both units are written out by `State.cold`. -/
theorem coldStartStrataAndJob : Obligations.ColdStartStrataAndJob := by
  unfold Obligations.ColdStartStrataAndJob
  intro st torn decay s
  exact ⟨_, rfl, ⟨rfl, rfl, rfl, rfl, rfl⟩, rfl, rfl, rfl, rfl, rfl, rfl, rfl, rfl, rfl, rfl, rfl, rfl, rfl, rfl, rfl, rfl,
    rfl, rfl, rfl, rfl, rfl⟩

/-! ### Records under construction -/

theorem building_iff (p : Parcel) : p.building = true ↔ p.status ≠ .finalWaiting := by simp [Parcel.building]

theorem holds_iff (top bottom depth : Nat) : holds top bottom depth = true ↔ top ≤ depth ∧ depth < bottom := by
  simp [holds]

/-- No two parcels of the queue share an interval, so an adjustment of a parcel's interval is one of that parcel alone. -/
theorem modParcel_of_mem {s : State} (hq : QueueOk s) {p : Parcel} (hp : p ∈ s.lgu.parcels) (f : Parcel → Parcel) :
    s.modParcel p.record.interval f =
      { s with lgu := { s.lgu with parcels := s.lgu.parcels.map fun q => if q = p then f q else q } } := by
  have hone : ∀ q ∈ s.lgu.parcels, q.record.interval = p.record.interval ↔ q = p := fun q hmem =>
    ⟨List.inj_on_of_nodup_map (intervals_nodup hq) hmem hp, fun h => h ▸ rfl⟩
  have hmap : (s.lgu.parcels.map fun q => if q.record.interval = p.record.interval then f q else q) =
      s.lgu.parcels.map fun q => if q = p then f q else q :=
    List.map_congr_left fun q hmem => if_congr (hone q hmem) rfl rfl
  rw [← hmap]
  rfl

/-! ### Water strikes (R101) -/

section
variable {s : State} {depth : Nat}

/-- A depth in the open interval is written there. -/
theorem writeStrike_of_open {iv : OpenInterval} (hiv : s.slu.openIv = some iv) (h : iv.top ≤ depth ∧ depth < iv.bottom) :
    s.writeStrike depth =
      some (s.modSlu fun u => { u with openIv := some { iv with strike := shallower iv.strike depth } }) := by
  have hsome : s.slu.openIv.filter (fun iv => holds iv.top iv.bottom depth) = some iv := by
    rw [hiv, Option.filter_eq_some_iff]
    exact ⟨rfl, (holds_iff _ _ _).mpr h⟩
  unfold State.writeStrike
  rw [hsome]

variable (hopen : ∀ iv, s.slu.openIv = some iv → ¬ (iv.top ≤ depth ∧ depth < iv.bottom))
include hopen

/-- A depth outside the open interval is left to the first parcel under construction that holds it. -/
theorem writeStrike_of_not_open :
    s.writeStrike depth =
      (s.lgu.parcels.find? fun p => p.building && holds p.record.top p.record.bottom depth).map fun p =>
        s.modParcel p.record.interval fun q => { q with record := q.record.strikeAt depth } := by
  have hnone : s.slu.openIv.filter (fun iv => holds iv.top iv.bottom depth) = none := by
    simpa only [Option.filter_eq_none_iff, holds_iff] using hopen
  unfold State.writeStrike
  rw [hnone]
  dsimp only
  split
  next p hp => rw [hp]; rfl
  next hnot => rw [hnot]; rfl

theorem writeStrike_of_final
    (h : ∀ p ∈ s.lgu.parcels, p.status = .finalWaiting ∨ ¬ (p.record.top ≤ depth ∧ depth < p.record.bottom)) :
    s.writeStrike depth = none := by
  rw [writeStrike_of_not_open hopen, Option.map_eq_none_iff, List.find?_eq_none]
  intro p hp
  rw [Bool.and_eq_true, building_iff, holds_iff]
  rintro ⟨hbuilding, hholds⟩
  exact (h p hp).elim hbuilding fun hnot => hnot hholds

/-- The one parcel that holds the depth, still under construction, takes the strike. -/
theorem writeStrike_of_parcel (hq : QueueOk s) {p : Parcel} (hp : p ∈ s.lgu.parcels) (hbuilding : p.status ≠ .finalWaiting)
    (hholds : p.record.top ≤ depth ∧ depth < p.record.bottom)
    (hone : ∀ q ∈ s.lgu.parcels, q.record.top ≤ depth ∧ depth < q.record.bottom → q = p) :
    s.writeStrike depth =
      some { s with
        lgu := { s.lgu with
          parcels := s.lgu.parcels.map fun q => if q = p then { q with record := q.record.strikeAt depth } else q } } := by
  have hfind : (s.lgu.parcels.find? fun q => q.building && holds q.record.top q.record.bottom depth) = some p := by
    cases hfound : s.lgu.parcels.find? fun q => q.building && holds q.record.top q.record.bottom depth with
    | none =>
      refine absurd ?_ (List.find?_eq_none.mp hfound p hp)
      rw [Bool.and_eq_true, building_iff, holds_iff]
      exact ⟨hbuilding, hholds⟩
    | some q =>
      obtain ⟨-, hq'⟩ := Bool.and_eq_true_iff.mp (List.find?_some (p := fun q => _ && _) hfound)
      rw [hone q (List.mem_of_find?_eq_some hfound) ((holds_iff _ _ _).mp hq')]
  rw [writeStrike_of_not_open hopen, hfind, Option.map_some, modParcel_of_mem hq hp]

end

/-- With a job open the depth decides, then the record that holds it (R101). -/
theorem ownReportWaterStrike_of_opened {s : State} (h : s.jmu.state = .opened) (depth : Nat) :
    ownReportWaterStrike depth s =
      if s.str.hole < depth then say .badValue s
      else if depth < s.slu.anchor.getD 0 then say .notFound s
      else
        match s.writeStrike depth with
        | some t => say .ok (t.fire .waterStrike (.depth depth))
        | none => say .tooLate s := by
  unfold ownReportWaterStrike
  rw [h]
  rfl

/-! ### Notes (R102) -/

theorem addNote_of_room {notes : List Nat} (h : notes.length < 3) (note : Nat) :
    addNote notes note = some (notes ++ [note]) := if_pos h

theorem addNote_of_full {notes : List Nat} (h : ¬ notes.length < 3) (note : Nat) : addNote notes note = none := if_neg h

theorem ownAddNote_of_range {note : Nat} (h : ¬ (1 ≤ note ∧ note ≤ 255)) (n : Nat) (s : State) :
    ownAddNote n note s = say .badValue s :=
  if_pos (by rwa [← Bool.not_eq_true, inRange_iff])

section
variable {note : Nat} (hnote : 1 ≤ note ∧ note ≤ 255)
include hnote

theorem ownAddNote_of_notOpen {s : State} {st : Status} (h : s.jmu.state.notOpen = some st) (n : Nat) :
    ownAddNote n note s = say st s := by
  unfold ownAddNote
  rw [if_neg (by simp [inRange_iff.mpr hnote]), h]

variable {s : State} (hstate : s.jmu.state = .opened) {iv : OpenInterval} (hiv : s.slu.openIv = some iv)
include hstate hiv

/-- With a job open and an open interval, the interval's number decides. -/
theorem ownAddNote_of_opened (n : Nat) :
    ownAddNote n note s =
      if iv.number < n then say .notFound s
      else if n = iv.number then
        match addNote iv.notes note with
        | some l => say .ok (s.modSlu fun u => { u with openIv := some { iv with notes := l } })
        | none => say .tableFull s
      else
        match (s.parcel n).filter Parcel.building with
        | some p =>
          match addNote p.record.notes note with
          | some l => say .ok (s.modParcel n fun p => { p with record := { p.record with notes := l } })
          | none => say .tableFull s
        | none => say .tooLate s := by
  unfold ownAddNote
  rw [if_neg (by simp [inRange_iff.mpr hnote]), hstate, hiv]
  rfl

theorem ownAddNote_of_newer {n : Nat} (h : iv.number < n) : ownAddNote n note s = say .notFound s :=
  (ownAddNote_of_opened hnote hstate hiv n).trans (if_pos h)

/-- A note on the open interval joins its notes, if there is room. -/
theorem ownAddNote_of_same :
    ownAddNote iv.number note s =
      if iv.notes.length < 3 then
        say .ok (s.modSlu fun u => { u with openIv := some { iv with notes := iv.notes ++ [note] } })
      else say .tableFull s := by
  rw [ownAddNote_of_opened hnote hstate hiv, if_neg (Nat.lt_irrefl _), if_pos rfl]
  by_cases hroom : iv.notes.length < 3
  · rw [addNote_of_room hroom, if_pos hroom]
  · rw [addNote_of_full hroom, if_neg hroom]

/-- A note on an older interval goes to its parcel, if there is one under construction. -/
theorem ownAddNote_of_older {n : Nat} (h : n < iv.number) :
    ownAddNote n note s =
      match s.parcel n with
      | none => say .tooLate s
      | some p =>
        if p.status = .finalWaiting then say .tooLate s
        else if p.record.notes.length < 3 then
          say .ok (s.modParcel n fun q => { q with record := { q.record with notes := p.record.notes ++ [note] } })
        else say .tableFull s := by
  rw [ownAddNote_of_opened hnote hstate hiv, if_neg (by omega), if_neg (by omega)]
  cases s.parcel n with
  | none => rfl
  | some p =>
    by_cases hfinal : p.status = .finalWaiting
    · have hnot : (some p).filter Parcel.building = none := by simp [Parcel.building, hfinal]
      rw [hnot]
      exact (if_pos hfinal).symm
    · rw [Option.filter_eq_some_iff.mpr ⟨rfl, (building_iff p).mpr hfinal⟩]
      dsimp only
      rw [if_neg hfinal]
      by_cases hroom : p.record.notes.length < 3
      · rw [addNote_of_room hroom, if_pos hroom]
      · rw [addNote_of_full hroom, if_neg hroom]

end

/-- Settles O40: the checks of each report one after another, the record a strike is written into by where the depth lies
(`writeStrike_of_open`, `writeStrike_of_parcel`), and that of a note by its interval's age. -/
theorem waterStrikesAndNotes : Obligations.WaterStrikesAndNotes := by
  unfold Obligations.WaterStrikesAndNotes
  refine ⟨?_, ?_⟩
  · intro ln tag depth s h ran refused holds shallow
    have answered : ∀ {st u}, ownReportWaterStrike depth s = say st u → ran = .next (u.sayOn ln 36 tag st) :=
      request_of_say h tag
    refine ⟨fun hno => answered (by unfold ownReportWaterStrike; rw [hno]; rfl),
      fun ph hclosing => answered (by unfold ownReportWaterStrike; rw [hclosing]; rfl), fun hopened => ?_⟩
    have howner := ownReportWaterStrike_of_opened hopened depth
    refine ⟨fun hdeep => answered (howner.trans (if_pos hdeep)), fun hhole habove => ?_, fun hhole hanchor => ?_⟩
      <;> rw [if_neg (Nat.not_lt.mpr hhole)] at howner
    · exact answered (howner.trans (if_pos habove))
    rw [if_neg (Nat.not_lt.mpr hanchor)] at howner
    refine ⟨fun iv hiv hin => ?_, fun hout hfinal => ?_, fun hout hq p hp hbuilding hin hone => ?_⟩
    · rw [writeStrike_of_open hiv hin] at howner
      exact answered howner
    · rw [writeStrike_of_final hout hfinal] at howner
      exact answered howner
    · rw [writeStrike_of_parcel hout hq hp hbuilding hin hone] at howner
      exact answered howner
  · intro ln tag n note s h ran refused
    have answered : ∀ {st u}, ownAddNote n note s = say st u → ran = .next (u.sayOn ln 37 tag st) := request_of_say h tag
    refine ⟨fun hbad => answered (ownAddNote_of_range (by omega) n s), fun h1 h255 => ?_⟩
    have hnote : 1 ≤ note ∧ note ≤ 255 := ⟨h1, h255⟩
    refine ⟨fun hno => answered (ownAddNote_of_notOpen hnote (by rw [hno]; rfl) n),
      fun ph hclosing => answered (ownAddNote_of_notOpen hnote (by rw [hclosing]; rfl) n), fun iv hopened hiv => ?_⟩
    refine ⟨fun hnew => answered (ownAddNote_of_newer hnote hopened hiv hnew), ?_, ?_, fun hold => ?_⟩
    · rintro rfl hfull
      exact answered ((ownAddNote_of_same hnote hopened hiv).trans (if_neg (Nat.not_lt.mpr hfull)))
    · rintro rfl hroom
      exact answered ((ownAddNote_of_same hnote hopened hiv).trans (if_pos hroom))
    have howner := ownAddNote_of_older hnote hopened hiv hold
    unfold State.parcel at howner
    split
    next hnone =>
      rw [hnone] at howner
      exact answered howner
    next p hp =>
      rw [hp] at howner
      refine ⟨fun hfinal => answered (howner.trans (if_pos hfinal)), fun hbuilding hfull => ?_, fun hbuilding hroom => ?_⟩
      · exact answered (howner.trans ((if_neg hbuilding).trans (if_neg (Nat.not_lt.mpr hfull))))
      · exact answered (howner.trans ((if_neg hbuilding).trans (if_pos hroom)))

end Sys2Proof.StrataLogProofs
end

section
/-! Store reads (R106, R149 to R152). -/

namespace Sys2Proof.StrataLogProofs

open Sys2Proof Machine ConnectionProofs

/-! ### The controller decides (R149, R150) -/

section
variable {s : State} (ln : Link) (tag : Nat) (req : ReadReq)

/-- A controller at rest serves a read at once. -/
theorem takeRead_of_rest (h : s.rst.ctl = .ready ∨ s.rst.ctl = .failed) :
    takeRead ln tag req s = ((serve req s).1, .reply (serve req s).2.1 [(serve req s).2.2]) := by
  unfold takeRead
  rcases h with h | h <;> rw [h]

theorem takeRead_of_writing (h : s.rst.ctl = .writing) : takeRead ln tag req s = s.defer ⟨ln, tag, req⟩ := by
  unfold takeRead
  rw [h]

theorem takeRead_of_suspended {e : Erase} (h : s.rst.ctl = .suspended e) :
    takeRead ln tag req s = s.defer ⟨ln, tag, req⟩ := by
  unfold takeRead
  rw [h]

/-- A read suspends an erase that has been suspended fewer than 8 times, and waits in the other case too. -/
theorem takeRead_of_erasing {e : Erase} (h : s.rst.ctl = .erasing e) :
    takeRead ln tag req s =
      (s.modRst fun u =>
        { u with ctl := if e.suspensions < 8 then .suspended (e.pause s.now) else .erasing e }).defer ⟨ln, tag, req⟩ := by
  unfold takeRead
  rw [h]
  dsimp only
  split
  · rfl
  · rw [← h]
    rfl

end

/-- A read its link can take that waits gets no reply yet. -/
theorem request_of_defer {s t : State} {ln : Link} {k : Kind} {own : State → State × Answer} (h : CanTake s ln k)
    (tag : Nat) {p : PendingRead} (hown : own s = t.defer p) :
    request ln tag k own s = .next (t.modRst fun u => { u with readList := u.readList ++ [p] }) := by
  rw [request_of_canTake h, hown]
  rfl

/-! ### The slot read (R151, R152) -/

section
variable {α : Type}

/-- The reading of a slot agrees with the table of R151. -/
theorem slotOutcome_eq (x : Option (Slot α)) (index : Nat) (bytes : α → List Byte) :
    slotOutcome x index bytes =
      (((readOut x).reply index bytes).1, ((readOut x).reply index bytes).2, (readOut x).corrected) := by
  match x with
  | none => rfl
  | some .void => rfl
  | some (.written _ 0) => rfl
  | some (.written _ 1) => rfl
  | some (.written _ (_ + 2)) => rfl

/-- A served read of one slot fires and answers as the table of R151 says. -/
theorem served_eq (x : Option (Slot α)) (index : Nat) (bytes : α → List Byte) (s : State) (area : AreaId) :
    (s.fireCorrected (readOut x).corrected area index, (readOut x).reply index bytes) =
      (if (slotOutcome x index bytes).2.2 = true then s.fire .storeCorrected (.slot area index) else s,
        (slotOutcome x index bytes).1, (slotOutcome x index bytes).2.1) := by
  rw [slotOutcome_eq]
  rfl

/-- An image area is read through the image that it holds (R152). -/
theorem readOut_image (a : ImageArea α) : a.readOut = readOut (a.image.map fun x => Slot.written x.1 x.2) := by
  rcases a with ⟨_ | ⟨c, n⟩ | _, _ | ⟨d, m⟩ | _⟩ <;> rfl

section
variable {a : ImageArea α} {c : α} {n : Nat}

theorem readSlot_of_written (h : a.slot0 = some (.written c n)) : a.readSlot = 0 := by
  simp [ImageArea.readSlot, isWritten, h]

theorem readSlot_of_second (h0 : ∀ c n, a.slot0 = some (.written c n) → False) (h : a.slot1 = some (.written c n)) :
    a.readSlot = 1 := by
  simp [ImageArea.readSlot, isWritten, h]

theorem readSlot_of_void (h : a.slot0 = some .void) : a.readSlot = 1 := by simp [ImageArea.readSlot, isWritten, isVoid, h]

theorem readSlot_of_blank (h : a.slot0 = none) (h1 : ∀ c n, a.slot1 = some (.written c n) → False) : a.readSlot = 0 := by
  simp [ImageArea.readSlot, isWritten, isVoid, h]

end

/-- A served read of an image area is the read of a slot that holds its image. -/
theorem served_image (a : ImageArea α) {index : Nat} (h : a.readSlot = index) (bytes : α → List Byte) (s : State)
    (area : AreaId) :
    (s.fireCorrected a.readOut.corrected area a.readSlot, a.readOut.reply a.readSlot bytes) =
      (let o := slotOutcome (a.image.map fun x => Slot.written x.1 x.2) index bytes
       (if o.2.2 = true then s.fire .storeCorrected (.slot area index) else s, o.1, o.2.1)) := by
  rw [readOut_image, h]
  exact served_eq _ _ _ _ _

end

/-! ### The ring, backward (R141, R152) -/

/-- The slots at these indices that are not BLANK. -/
def slotsAt {α : Type} (slot : Nat → Option (Slot α)) (l : List Nat) : List (Nat × Slot α) :=
  l.filterMap fun i => (slot i).map fun x => (i, x)

section
variable {blocks per : Nat} {α : Type} {r : Ring blocks per α}

theorem mem_slotsAt {slot : Nat → Option (Slot α)} {l : List Nat} {p : Nat × Slot α} :
    p ∈ slotsAt slot l ↔ p.1 ∈ l ∧ slot p.1 = some p.2 := by
  obtain ⟨i, x⟩ := p
  simp only [slotsAt, List.mem_filterMap, Option.map_eq_some_iff, Prod.mk.injEq]
  constructor
  · rintro ⟨j, hj, y, hy, rfl, rfl⟩
    exact ⟨hj, hy⟩
  · rintro ⟨hi, hx⟩
    exact ⟨i, hi, x, hx, rfl, rfl⟩

/-- A canonical ring holds one content a slot (R140). -/
theorem get_eq_some_iff (h : r.wf = true) {p : Nat × Slot α} : r.get p.1 = some p.2 ↔ p ∈ r.slots := by
  unfold Ring.get
  rw [Option.map_eq_some_iff]
  constructor
  · rintro ⟨q, hq, hx⟩
    have hi : q.1 = p.1 := by simpa using List.find?_some hq
    rw [← Prod.ext hi hx]
    exact List.mem_of_find?_eq_some hq
  · intro hp
    cases hfind : r.slots.find? fun q => q.1 == p.1 with
    | none => simpa using List.find?_eq_none.mp hfind p hp
    | some q =>
      have hi : q.1 = p.1 := by simpa using List.find?_some hfind
      have hnodup : (r.slots.map (·.1)).Nodup := ((Ring.wf_iff r).mp h).1.imp Nat.ne_of_lt
      rw [List.inj_on_of_nodup_map hnodup (List.mem_of_find?_eq_some hfind) hp hi]
      exact ⟨p, rfl, rfl⟩

/-- The slots of a canonical ring stand in the order of their indices. -/
theorem filter_slots (h : r.wf = true) {l : List Nat} (hl : l.Pairwise (· < ·)) {keep : Nat → Bool}
    (hkeep : ∀ i < blocks * per, keep i = true ↔ i ∈ l) : r.slots.filter (fun p => keep p.1) = slotsAt r.get l := by
  obtain ⟨hrising, hin⟩ := (Ring.wf_iff r).mp h
  have hirrefl : Std.Irrefl fun p q : Nat × Slot α => p.1 < q.1 := ⟨fun _ => Nat.lt_irrefl _⟩
  have hantisymm : Std.Antisymm fun p q : Nat × Slot α => p.1 < q.1 := ⟨fun _ _ hpq hqp => absurd hqp (Nat.lt_asymm hpq)⟩
  refine List.Pairwise.eq_of_mem_iff (r := fun p q => p.1 < q.1) ((List.pairwise_map.mp hrising).filter _) ?_ fun p => ?_
  · refine List.pairwise_filterMap.mpr (hl.imp fun hij p hp q hq => ?_)
    obtain ⟨_, _, rfl⟩ := Option.map_eq_some_iff.mp hp
    obtain ⟨_, _, rfl⟩ := Option.map_eq_some_iff.mp hq
    exact hij
  · rw [List.mem_filter, mem_slotsAt, get_eq_some_iff h, and_comm]
    exact and_congr_left fun hp => hkeep p.1 (hin p hp)

/-- The indices of a ring of `n + 1` slots backward from a position: those below it, then those from the end down to it. -/
theorem backward_indices {n pos : Nat} (h : pos < n + 1) :
    ((List.range (n + 1)).map fun k => (pos + n - k) % (n + 1)) =
      (List.range pos).reverse ++ (List.range' pos (n + 1 - pos)).reverse := by
  refine List.ext_getElem (by simp; omega) fun k hk _ => ?_
  simp only [List.length_map, List.length_range] at hk
  simp only [List.getElem_map, List.getElem_range, List.getElem_append, List.length_reverse, List.length_range,
    List.getElem_reverse, List.getElem_range', List.length_range']
  split
  next hbelow =>
    rw [show pos + n - k = (pos - 1 - k) + (n + 1) by omega, Nat.add_mod_right, Nat.mod_eq_of_lt (by omega)]
  next hfrom =>
    rw [Nat.mod_eq_of_lt (by omega)]
    omega

/-- Backward from a position a canonical ring gives its slots that are not BLANK, the one before the position first. -/
theorem backward_eq (h : r.wf = true) {n pos : Nat} (hn : blocks * per = n + 1) (hpos : pos < n + 1) :
    r.backward pos = slotsAt r.get ((List.range (n + 1)).map fun k => (pos + n - k) % (n + 1)) := by
  have hbelow : r.slots.filter (fun p => p.1 < pos) = slotsAt r.get (List.range pos) :=
    filter_slots h (keep := fun i => i < pos) List.pairwise_lt_range fun i _ => by
      rw [decide_eq_true_iff, List.mem_range]
  have hfrom : r.slots.filter (fun p => pos ≤ p.1) = slotsAt r.get (List.range' pos (n + 1 - pos)) :=
    filter_slots h (keep := fun i => pos ≤ i) List.pairwise_lt_range' fun i hi => by
      rw [decide_eq_true_iff, List.mem_range'_1]
      omega
  unfold Ring.backward
  rw [hbelow, hfrom, backward_indices hpos]
  simp only [slotsAt, List.filterMap_append, List.filterMap_reverse]

end

/-! ### The search of Read Strata Latest (R152) -/

/-- Does the slot give a record of this job? -/
def givesRecordOf (job : Nat) : Option (Slot StrataRec) → Bool
  | some (.written r n) => decide (n ≤ 1) && r.job == job
  | _ => false

/-- Does a read of the slot correct an error (R151)? -/
def givesCorrection : Option (Slot StrataRec) → Bool
  | some (.written _ n) => n == 1
  | _ => false

/-- STORE_CORRECTED has fired for each of these slots that a read corrects. -/
def fireSeen (slot : Nat → Option (Slot StrataRec)) (seen : List Nat) (s : State) : State :=
  s.fireEach .storeCorrected ((seen.filter fun i => givesCorrection (slot i)).map fun i => .slot .strata i)

section
variable {slot : Nat → Option (Slot StrataRec)} {job : Nat}

theorem fireSeen_append (l m : List Nat) (s : State) : fireSeen slot (l ++ m) s = fireSeen slot m (fireSeen slot l s) := by
  simp only [fireSeen, State.fireEach, List.filter_append, List.map_append, List.foldl_append]

/-- The firing of one slot that is not BLANK. -/
theorem fireSeen_one {i : Nat} {x : Slot StrataRec} (h : slot i = some x) (s : State) :
    fireSeen slot [i] s = s.fireCorrected (readOut (some x)).corrected .strata i := by
  unfold fireSeen
  rw [List.filter_singleton, h]
  match x with
  | .void => rfl
  | .written _ 0 => rfl
  | .written _ 1 => rfl
  | .written _ (_ + 2) => rfl

theorem fireSeen_blank {i : Nat} (h : slot i = none) (s : State) : fireSeen slot [i] s = s := by
  unfold fireSeen
  rw [List.filter_singleton, h]
  rfl

/-- The search passes a slot without a record of the job. -/
theorem searchLatest_pass {i : Nat} (h : givesRecordOf job (slot i) = false) (l : List Nat) (s : State) :
    searchLatest job (slotsAt slot (i :: l)) s = searchLatest job (slotsAt slot l) (fireSeen slot [i] s) := by
  unfold slotsAt
  rw [List.filterMap_cons]
  cases hx : slot i with
  | none => rw [fireSeen_blank hx]; rfl
  | some x =>
    rw [hx] at h
    rw [fireSeen_one hx]
    match x with
    | .void => rfl
    | .written r 0 => exact if_neg (by simpa [givesRecordOf] using h)
    | .written r 1 => exact if_neg (by simpa [givesRecordOf] using h)
    | .written _ (_ + 2) => rfl

theorem searchLatest_passes {seen : List Nat} : ∀ {s : State}, (∀ i ∈ seen, givesRecordOf job (slot i) = false) →
    ∀ rest, searchLatest job (slotsAt slot (seen ++ rest)) s =
      searchLatest job (slotsAt slot rest) (fireSeen slot seen s) := by
  induction seen with
  | nil => exact fun _ _ => rfl
  | cons i seen ih =>
    intro s h rest
    rw [List.cons_append, searchLatest_pass (h i List.mem_cons_self), ih fun j hj => h j (List.mem_cons_of_mem _ hj),
      ← fireSeen_append]
    rfl

/-- The search ends at the first record of the job. -/
theorem searchLatest_hit {i n : Nat} {r : StrataRec} (hslot : slot i = some (.written r n)) (hn : n ≤ 1)
    (hjob : r.job = job) (rest : List Nat) (s : State) :
    searchLatest job (slotsAt slot (i :: rest)) s = (fireSeen slot [i] s, some (i, decide (n = 1), r)) := by
  rw [fireSeen_one hslot]
  unfold slotsAt
  rw [List.filterMap_cons, hslot]
  match n with
  | 0 => exact if_pos hjob
  | 1 => exact if_pos hjob
  | _ + 2 => omega

theorem givesRecordOf_iff {x : Option (Slot StrataRec)} :
    givesRecordOf job x = true ↔ ∃ r n, x = some (.written r n) ∧ n ≤ 1 ∧ r.job = job := by
  unfold givesRecordOf
  split
  next r n => simp
  next hnot =>
    refine ⟨fun h => absurd h Bool.false_ne_true, ?_⟩
    rintro ⟨r, n, rfl, -⟩
    exact absurd rfl (hnot r n)

/-- The search passes every slot, or it ends at the first one with a record of the job. -/
theorem searchLatest_cases (job : Nat) (slot : Nat → Option (Slot StrataRec)) (l : List Nat) (s : State) :
    (∀ i ∈ l, givesRecordOf job (slot i) = false) ∧ searchLatest job (slotsAt slot l) s = (fireSeen slot l s, none)
      ∨ ∃ seen i rest r n, l = seen ++ i :: rest ∧ (∀ j ∈ seen, givesRecordOf job (slot j) = false)
        ∧ slot i = some (.written r n) ∧ n ≤ 1 ∧ r.job = job
        ∧ searchLatest job (slotsAt slot l) s = (fireSeen slot (seen ++ [i]) s, some (i, decide (n = 1), r)) := by
  cases hfind : l.find? fun i => givesRecordOf job (slot i) with
  | none =>
    have hpass : ∀ i ∈ l, givesRecordOf job (slot i) = false := by simpa using hfind
    have hsearch := searchLatest_passes (s := s) hpass []
    rw [List.append_nil] at hsearch
    exact .inl ⟨hpass, hsearch⟩
  | some i =>
    obtain ⟨hfound, seen, rest, rfl, hseen⟩ := List.find?_eq_some_iff_append.mp hfind
    obtain ⟨r, n, hslot, hn, hjob⟩ := givesRecordOf_iff.mp hfound
    have hpass : ∀ j ∈ seen, givesRecordOf job (slot j) = false := by simpa using hseen
    refine .inr ⟨seen, i, rest, r, n, rfl, hpass, hslot, hn, hjob, ?_⟩
    rw [searchLatest_passes hpass, searchLatest_hit hslot hn hjob, fireSeen_append]

end

theorem serve_latest_of_none {s t : State} {job : Nat}
    (h : searchLatest job (s.rst.areas.strata.backward s.rst.strataPos) s = (t, none)) :
    serve (.latest job) s = (t, .notFound, []) := by
  simp only [serve, h]

theorem serve_latest_of_some {s t : State} {job i : Nat} {corrected : Bool} {r : StrataRec}
    (h : searchLatest job (s.rst.areas.strata.backward s.rst.strataPos) s = (t, some (i, corrected, r))) :
    serve (.latest job) s = (t, .ok, num 2 i ++ flag corrected ++ strataBytes r) := by
  simp only [serve, h]

/-! ### The five requests -/

/-- The five store reads with operands in range. -/
def ReadOf (ln : Link) (tag : Nat) (i : Instr) (req : ReadReq) : Prop :=
  (∃ n, n < 8192 ∧ i = .readStrata ln tag n ∧ req = .strata n)
    ∨ (∃ n, 1 ≤ n ∧ n ≤ 65535 ∧ i = .readStrataLatest ln tag n ∧ req = .latest n)
    ∨ (∃ n p, n < 64 ∧ 1 ≤ p ∧ p ≤ 3 ∧ i = .readJob ln tag n p ∧ req = .job n p)
    ∨ (∃ p, 1 ≤ p ∧ p ≤ 9 ∧ i = .readSettingsImage ln tag p ∧ req = .settings p)
    ∨ (∃ n, 1 ≤ n ∧ n ≤ 320 ∧ i = .readRodsImage ln tag n ∧ req = .rods n)

/-- With its operands in range a store read is a request that its owner hands to the store. -/
theorem exec_of_readOf {ln : Link} {tag : Nat} {i : Instr} {req : ReadReq} (h : ReadOf ln tag i req) (s : State) :
    exec i s = request ln tag req.kind (takeRead ln tag req) s := by
  rcases h with ⟨n, hn, rfl, rfl⟩ | ⟨n, h1, hn, rfl, rfl⟩ | ⟨n, p, hn, h1, hp, rfl, rfl⟩ | ⟨p, h1, hp, rfl, rfl⟩
    | ⟨n, h1, hn, rfl, rfl⟩
  · exact congrArg (request ln tag .readStrata · s) (funext fun _ => if_pos hn)
  · exact congrArg (request ln tag .readStrataLatest · s) (funext fun _ => if_pos (inRange_iff.mpr ⟨h1, hn⟩))
  · exact congrArg (request ln tag .readJob · s) (funext fun _ => if_pos (by simp [hn, inRange_iff.mpr ⟨h1, hp⟩]))
  · exact congrArg (request ln tag .readSettingsImage · s) (funext fun _ => if_pos (inRange_iff.mpr ⟨h1, hp⟩))
  · exact congrArg (request ln tag .readRodsImage · s) (funext fun _ => if_pos (inRange_iff.mpr ⟨h1, hn⟩))

/-- Settles O27: a read by the controller's state (`takeRead_of_rest` to `takeRead_of_erasing`), the operands out of range,
a slot's outcome by the table of R151 (`served_eq`), and the search over the ring's indices (`backward_eq`,
`searchLatest_cases`). -/
theorem storeReads : Obligations.StoreReads := by
  unfold Obligations.StoreReads
  refine ⟨?_, fun ln tag n p s => ?_, ?_, ?_⟩
  · intro ln tag s i req h hreq joined
    rw [exec_of_readOf hreq]
    refine ⟨fun hrest => ?_, fun hwriting => ?_, fun e hsuspended => ?_, fun e herasing => ?_⟩
    · rw [request_of_canTake h, takeRead_of_rest ln tag req hrest]
      rfl
    · exact request_of_defer h tag (takeRead_of_writing ln tag req hwriting)
    · exact request_of_defer h tag (takeRead_of_suspended ln tag req hsuspended)
    · exact request_of_defer h tag (takeRead_of_erasing ln tag req herasing)
  · have out {lo hi v : Nat} (h : v < lo ∨ hi < v) : ¬ inRange lo hi v = true := by rw [inRange_iff]; omega
    refine ⟨fun h hn => ?_, fun h hn => ?_, fun h hnp => ?_, fun h hp => ?_, fun h hn => ?_⟩
    · exact request_of_say h tag (if_neg (Nat.not_lt.mpr hn))
    · exact request_of_say h tag (if_neg (out hn))
    · refine request_of_say h tag (if_neg ?_)
      rw [Bool.and_eq_true, decide_eq_true_iff, inRange_iff]
      omega
    · exact request_of_say h tag (if_neg (out hp))
    · exact request_of_say h tag (if_neg (out hn))
  · intro s gives
    refine ⟨fun n => served_eq _ _ _ _ _, fun n p => served_eq _ _ _ _ _, fun p => ?_, fun n => ?_⟩
    all_goals
      intro a index
      have hindex : a.readSlot = index := by
        dsimp only [index]
        split
        next hslot => exact readSlot_of_written hslot
        next hslot hnot => exact readSlot_of_second hnot hslot
        next hslot _ => exact readSlot_of_void hslot
        next hslot hnot => exact readSlot_of_blank hslot hnot
    · exact served_image a hindex (fun x => settingsPartBytes x p) s .settings
    · exact served_image a hindex (fun items => rodsPartBytes items n) s .rods
  · intro s job hrings hpos slot back found fires firings
    have hback : s.rst.areas.strata.backward s.rst.strataPos = slotsAt slot back :=
      backward_eq hrings.1 (n := 8191) rfl hpos
    have hcases := searchLatest_cases job slot back s
    rw [← hback] at hcases
    rcases hcases with ⟨hnone, hsearch⟩ | ⟨seen, i, rest, r, n, hsplit, hseen, hslot, hn, hjob, hsearch⟩
    · exact .inl ⟨hnone, serve_latest_of_none hsearch⟩
    · exact .inr ⟨seen, i, rest, r, n, hsplit, hseen, hslot, hn, hjob, serve_latest_of_some hsearch⟩

end Sys2Proof.StrataLogProofs
end
